-- ==== Sys2Proof/Word.lean ====
section
/-! DEFINITION. The word types of URX (spec/00_scope.md R6, R12, R13; spec/10_state.md R20). -/

namespace Sys2Proof

/-- One byte, 0 to 255 (R13). -/
abbrev Byte := BitVec 8

/-- A SequenceCounter: `CTR_W` = 16 bits, all arithmetic modulo 65536 (R6, R21). -/
abbrev Counter := BitVec 16

/-- One sample: `SMP_W` = 12 bits, 0 to 4095 (R6, R30). -/
abbrev Sample := BitVec 12

/-- A SampleRateCode in its 2-bit register form (R27). -/
abbrev RateCode := BitVec 2

end Sys2Proof
end

