-- ==== Sys2Proof/Syntax.lean ====
section
/-! DEFINITION. The operation set URX-OPS-1 (spec/30_encoding.md R100), one constructor of `Instr` per row of
spec/opcode_table.json, with the data the operations speak of and the raw formats they are read from (R90). -/

namespace Sys2Proof

/-- The verdict of the tracker on one datagram (R16, R97). -/
inductive Verdict where
  | inOrder
  | gap (n : BitVec 16)
deriving DecidableEq, Repr

/-- One reassembly unit (R98, R162). -/
inductive GapRecord where
  | payload (p : List Byte)
  | gap (missingCount : BitVec 16)
deriving DecidableEq, Repr

/-- The states of the session (R26). -/
inductive Session where
  | idle
  | started
  | receiving
  | stopped
deriving DecidableEq, Repr

/-- The states of the gap synthesizer; its fourth 2-bit value is never taken (R25). -/
inductive GsState where
  | idle
  | zfill
  | payload
deriving DecidableEq, Repr, Inhabited

/-- The 27 operations of R100, in the order of spec/opcode_table.json. -/
inductive Instr where
  /-- RESET, input event 0 (R240). -/
  | reset
  /-- START, input event 1, with its 8-bit rate code operand (R181). -/
  | start (rc : Byte)
  /-- DGRAM, input event 2, with a datagram of any length (R182). -/
  | dgram (d : List Byte)
  /-- DGRAM.SHORT, the arm of DGRAM for `len(d) < 3` (R183). -/
  | dgramShort (d : List Byte)
  /-- DGRAM.OVERSIZE, the arm of DGRAM for `len(d) > 259` (R184). -/
  | dgramOversize (d : List Byte)
  /-- DGRAM.VALID, the arm of DGRAM for `3 <= len(d) <= 259` (R185). -/
  | dgramValid (d : List Byte)
  /-- TIMEOUT, input event 3 (R186). -/
  | timeout
  /-- CANCEL, input event 4 (R187). -/
  | cancel
  /-- STOPSEQ, the stop sequence (R188). -/
  | stopseq
  /-- CTL.START, the emission of the start message (R191). -/
  | ctlStart (rc : RateCode)
  /-- CTL.STOP, the emission of the stop message (R192). -/
  | ctlStop
  /-- RATEHZ (R189). -/
  | ratehz (c : RateCode)
  /-- TSTAMP (R193). -/
  | tstamp (i : Nat)
  /-- PARSE (R140). -/
  | parse (d : List Byte)
  /-- ADV (R142). -/
  | adv (x : Counter)
  /-- GAPLEN, the received counter first (R15, R144). -/
  | gaplen (received expected : Counter)
  /-- CLASSIFY (R146). -/
  | classify (received : Counter)
  /-- CLASSIFY.INORDER, the arm of CLASSIFY for `received == x[EXPECTED]` (R146). -/
  | classifyInorder (received : Counter)
  /-- CLASSIFY.GAP, the arm of CLASSIFY for `received != x[EXPECTED]` (R146). -/
  | classifyGap (received : Counter)
  /-- REASM, the atomic view of the reassembler (R160). -/
  | reasm (payload : List Byte) (verdict : Verdict)
  /-- REC.PAYLOAD (R163). -/
  | recPayload (p : List Byte)
  /-- REC.GAP (R164). -/
  | recGap (missingCount : BitVec 16)
  /-- GS.LOAD (R167). -/
  | gsLoad (payload : List Byte) (verdict : Verdict)
  /-- GS.ZFILL (R168). -/
  | gsZfill
  /-- GS.PAYLOAD (R169). -/
  | gsPayload
  /-- DECG, one group (R120). -/
  | decg (b0 b1 b2 b3 : Byte)
  /-- DECB, a buffer (R123). -/
  | decb (buf : List Byte)
deriving DecidableEq, Repr

/-- The raw forms an operation is read from: the formats of R90 that name an operation, and one format of the
model's own for the operations to which the spec gives no bits. -/
inductive Packet where
  /-- F-EVT (R96): the 3-bit event code beside its two operand lanes, `rc` of START and `d` of DGRAM. -/
  | evt (code : BitVec 3) (rc : Byte) (d : List Byte)
  /-- F-CTL2 and F-CTL1 (R92, R93): a control message. -/
  | ctl (msg : List Byte)
  /-- F-DG (R91): the bytes of a datagram, which select an arm of DGRAM by their number. -/
  | dg (d : List Byte)
  /-- F-REC (R98): the 17-bit head and the data bytes after it. -/
  | record (head : BitVec 17) (data : List Byte)
  /-- F-G4 (R94): one group. -/
  | group (b0 b1 b2 b3 : Byte)
  /-- DESIGN CHOICE (log entry 9): a call of an operation that has no encoding in the spec, by a selector number,
  its numeric arguments and its byte sequence. -/
  | call (selector : Nat) (args : List Nat) (data : List Byte)
deriving DecidableEq, Repr

end Sys2Proof
end

