-- ==== Sys2Proof/Config.lean ====
section
/-! DEFINITION. The fixed parameters (spec/00_scope.md R6), the open parameters (R7) and the free values
(spec/93_implementation_defined.md U16, U17). -/

namespace Sys2Proof.Config

/-- `HDR`, the header bytes of a datagram (R6). -/
def headerBytes : Nat := 3

/-- `BLK`, the largest payload and the size of one zero block, in bytes (R6). -/
def blockBytes : Nat := 256

/-- `DG_MAX`, the largest datagram, in bytes (R6). -/
def datagramMax : Nat := 259

/-- `CTL_START`, the first byte of the start command (R6, R92). -/
def ctlStartByte : Byte := 0x00

/-- `CTL_STOP`, the only byte of the stop command (R6, R93). -/
def ctlStopByte : Byte := 0x01

/-- `EXPECTED_INIT` (R6). -/
def expectedInit : Counter := 0

/-- The open parameters that change what the block does (R7): `none` is unbounded. -/
structure Params where
  /-- `BUF_CAP`, the capacity of the assembled buffer in bytes. -/
  bufCap : Option Nat
  /-- `PTR_W`, the width of WPTR in bits. -/
  ptrW : Option Nat
deriving DecidableEq, Repr

/-- The defaults of R7: both unbounded. -/
def defaultParams : Params := ⟨none, none⟩

/-! The free values: nothing constrains them. Each is applied to the counter `freeCtr` of State. -/

/-- EXPECTED after a BufferOverflow (U16). -/
opaque freeExpected : Nat → Counter

/-- The bytes ABUF holds after a BufferOverflow (U16). -/
opaque freeAbuf : Nat → List Byte

/-- WPTR after a BufferOverflow (U16). -/
opaque freeWptr : Nat → Nat

/-- SAMPLES after a BufferOverflow (U16). -/
opaque freeSamples : Nat → List Sample

/-- ZREM after a BufferOverflow (U16). -/
opaque freeZrem : Nat → BitVec 16

/-- PLEN after a BufferOverflow (U16). -/
opaque freePlen : Nat → BitVec 9

/-- GS_STATE after a BufferOverflow (U16). -/
opaque freeGsState : Nat → GsState

/-- PBUF after RESET (U17) and after a BufferOverflow (U16). -/
opaque freePbuf : Nat → Vector Byte 256

/-- The bytes DBUF holds once its event is over (U17). -/
opaque freeDbuf : Nat → List Byte

end Sys2Proof.Config
end

