-- ==== Sys2Proof/Machine/Operands.lean ====
section
/-! DEFINITION. How every operand is assembled and tested (spec/30_encoding.md R99, R106) and the pure functions of
the operation set: the decoder (spec/40_decoder.md), PARSE, ADV and GAPLEN (spec/41_tracker.md), the rate table and
the timestamp (spec/43_session.md R189, R193), the record translation (spec/42_reassembler.md R162). -/

namespace Sys2Proof

/-! Operand ranges. -/

/-- A payload is 0 to 256 bytes long (R91, R98). -/
def payloadOk (p : List Byte) : Bool := p.length ≤ Config.blockBytes

/-- The length test of DGRAM.SHORT (R183). -/
def shortLength (d : List Byte) : Bool := d.length < Config.headerBytes

/-- The length test of DGRAM.OVERSIZE (R184). -/
def oversizeLength (d : List Byte) : Bool := Config.datagramMax < d.length

/-- The length test of DGRAM.VALID and of PARSE (R185, R140). -/
def validLength (d : List Byte) : Bool := !shortLength d && !oversizeLength d

/-- Gap(0) is never produced (R97, R108). -/
def verdictOk : Verdict → Bool
  | .inOrder => true
  | .gap n => n != 0

/-- The legal operands of START: the codes 0 to 3 (R105). -/
def rateCodeOk (rc : Byte) : Bool := rc.toNat ≤ 3

/-! Datagrams. -/

/-- `DgRead(d, i)`, defined for `i < len(d)` (R14); every use in the model is under a length test. -/
def dgRead (d : List Byte) (i : Nat) : Byte := d.getD i 0

/-- The packet type byte, which no rule reads (R102). -/
def typeOf (d : List Byte) : Byte := dgRead d 0

/-- The sequence counter, little-endian: `DgRead(d, 1) + 256 * DgRead(d, 2)` (R65, R99). -/
def receivedOf (d : List Byte) : Counter := BitVec.ofNat 16 ((dgRead d 1).toNat + 256 * (dgRead d 2).toNat)

/-- The payload, `d[3 .. len(d)-1]` (R99). -/
def payloadOf (d : List Byte) : List Byte := d.drop Config.headerBytes

/-- PARSE: type, received counter and payload (R140). -/
def parse (d : List Byte) : Byte × Counter × List Byte := (typeOf d, receivedOf d, payloadOf d)

/-! Counters. -/

/-- ADV, plus one modulo 65536 (R142). -/
def adv (x : Counter) : Counter := x + 1

/-- GAPLEN, the distance from `expected` up to `received` modulo 65536 (R144). -/
def gaplen (received expected : Counter) : BitVec 16 := received - expected

/-- The number of lost datagrams a verdict stands for, 0 for InOrder (R160). -/
def Verdict.count : Verdict → BitVec 16
  | .inOrder => 0
  | .gap n => n

/-- The zero bytes a verdict stands for, `256 * n` (R160, R165). -/
def Verdict.fillBytes (v : Verdict) : Nat := Config.blockBytes * v.count.toNat

/-- RECORDS: one datagram as reassembly units, the gap before the payload (R161, R162). -/
def records (payload : List Byte) : Verdict → List GapRecord
  | .inOrder => [.payload payload]
  | .gap n => [.gap n, .payload payload]

/-- The bytes one reassembly unit stands for (R98, R163, R164). -/
def GapRecord.bytes : GapRecord → List Byte
  | .payload p => p
  | .gap n => List.replicate (Config.blockBytes * n.toNat) 0

/-! The sample decoder. -/

/-- `sample1 = (b2 << 4) | ((b1 & 0xF0) >> 4)` (R120). -/
def sample1 (b1 b2 : Byte) : Sample :=
  (b2.setWidth 12 <<< 4) ||| ((b1 &&& 0xF0).setWidth 12 >>> 4)

/-- `sample2 = ((b1 & 0x0F) << 8) | b0` (R120). -/
def sample2 (b0 b1 : Byte) : Sample :=
  ((b1 &&& 0x0F).setWidth 12 <<< 8) ||| b0.setWidth 12

/-- DECG, one group; `b3` is ignored (R120, R122). -/
def decodeGroup (b0 b1 b2 _b3 : Byte) : Sample × Sample := (sample1 b1 b2, sample2 b0 b1)

/-- DECB: every complete group in order, `sample1` then `sample2`; the 1 to 3 bytes left over are dropped
(R123, R124). -/
def decodeBuffer : List Byte → List Sample
  | b0 :: b1 :: b2 :: b3 :: rest =>
    (decodeGroup b0 b1 b2 b3).1 :: (decodeGroup b0 b1 b2 b3).2 :: decodeBuffer rest
  | _ => []

/-! Rate and time. -/

/-- RATE_ROM, the static rate table (R28), and RATEHZ, its read (R189). -/
def rateRom (c : RateCode) : Nat :=
  match c.toNat with
  | 0 => 200000
  | 1 => 500000
  | 2 => 1000000
  | _ => 2000000

/-- The sample period in nanoseconds (R189). -/
def periodNs (c : RateCode) : Nat :=
  match c.toNat with
  | 0 => 5000
  | 1 => 2000
  | 2 => 1000
  | _ => 500

/-- TSTAMP for a rate code: the exact rational `i / RATEHZ(c)`, in seconds (R193, the default of `TIME_REPR`). -/
def timestamp (c : RateCode) (i : Nat) : Rat := mkRat i (rateRom c)

/-! State encodings (R25, R26). -/

/-- The 2-bit encoding of SESSION (R26). -/
def Session.code : Session → BitVec 2
  | .idle => 0
  | .started => 1
  | .receiving => 2
  | .stopped => 3

/-- The 2-bit encoding of GS_STATE (R25). -/
def GsState.code : GsState → BitVec 2
  | .idle => 0
  | .zfill => 1
  | .payload => 2

end Sys2Proof
end

