-- ==== Sys2Proof/WellFormed.lean ====
section
/-! DEFINITION. The operand ranges of the operations (spec/30_encoding.md R97, R98, R99, R106, R108): which terms of
`Instr` stand for an operation of the spec. -/

namespace Sys2Proof

/-- Every operand lies in the range the spec gives it. START takes any byte: an illegal code is an error the block
reports (R105), not an ill-formed operation. -/
def WellFormed : Instr → Bool
  | .reset => true
  | .start _ => true
  | .dgram _ => true
  | .dgramShort d => shortLength d
  | .dgramOversize d => oversizeLength d
  | .dgramValid d => validLength d
  | .timeout => true
  | .cancel => true
  | .stopseq => true
  | .ctlStart _ => true
  | .ctlStop => true
  | .ratehz _ => true
  | .tstamp _ => true
  | .parse d => validLength d
  | .adv _ => true
  | .gaplen _ _ => true
  | .classify _ => true
  | .classifyInorder _ => true
  | .classifyGap _ => true
  | .reasm p v => payloadOk p && verdictOk v
  | .recPayload p => payloadOk p
  | .recGap _ => true
  | .gsLoad p v => payloadOk p && verdictOk v
  | .gsZfill => true
  | .gsPayload => true
  | .decg _ _ _ _ => true
  | .decb _ => true

end Sys2Proof
end

