-- ==== Sys2Proof/Decode.lean ====
section
/-! DEFINITION. Reading an operation from a packet, total and rejecting by name, and after it the encoder; both from
spec/30_encoding.md (R91 to R98, R100, R101). The wire formats of results and messages (F-VERDICT, F-REC, F-CTL, F-DG)
are here too. -/

namespace Sys2Proof

/-- Why a packet stands for no operation. -/
inductive Reject where
  /-- Event codes 5, 6 and 7 are reserved (R107). The step answers BadState to such an event, during a fill not
  before GS_IDLE (log entry 15). -/
  | reservedEventCode (code : BitVec 3)
  /-- The control protocol has exactly two messages (R104). -/
  | illegalControl
  /-- A record head that the block never produces, or one whose data does not fit it (R98, R108). -/
  | illegalRecord
  /-- No operation has this selector (log entry 9). -/
  | unknownSelector (selector : Nat)
  /-- The arguments are outside the operation's operand ranges (log entry 9). -/
  | badArguments (selector : Nat)
deriving DecidableEq, Repr

/-! The 17-bit words of F-VERDICT and F-REC: one tag bit above a 16-bit value. -/

/-- The word of a tag and a value. -/
def tagged (tag : Bool) (val : BitVec 16) : BitVec 17 := BitVec.ofNat 17 (tag.toNat * 65536 + val.toNat)

/-- Bit 16 of a word. -/
def tagBit (w : BitVec 17) : Bool := 65536 ≤ w.toNat

/-- Bits 15 to 0 of a word. -/
def tagValue (w : BitVec 17) : BitVec 16 := BitVec.ofNat 16 w.toNat

/-! F-VERDICT (R97): `g` above `len`. -/

/-- The 17 bits of a verdict. -/
def encodeVerdict : Verdict → BitVec 17
  | .inOrder => tagged false 0
  | .gap n => tagged true n

/-- The verdict of 17 bits; the patterns the block never produces have none (R97, R108). -/
def decodeVerdict (w : BitVec 17) : Option Verdict :=
  if tagBit w then
    if tagValue w = 0 then none else some (.gap (tagValue w))
  else
    if tagValue w = 0 then some .inOrder else none

/-! F-REC (R98): a head, `tag` above `val`, then the data bytes. -/

/-- The head of a record. -/
def encodeRecordHead : GapRecord → BitVec 17
  | .payload p => tagged false (BitVec.ofNat 16 p.length)
  | .gap n => tagged true n

/-- The data bytes of a record. -/
def encodeRecordData : GapRecord → List Byte
  | .payload p => p
  | .gap _ => []

/-- The record of a head and its data bytes. -/
def decodeRecord (head : BitVec 17) (data : List Byte) : Option GapRecord :=
  if tagBit head then
    if data = [] then some (.gap (tagValue head)) else none
  else
    if payloadOk data && data.length == (tagValue head).toNat then some (.payload data) else none

/-! F-CTL2 and F-CTL1 (R92, R93). -/

/-- The start command, `[0x00, rc]` (R92). -/
def startMessage (rc : RateCode) : List Byte := [Config.ctlStartByte, rc.setWidth 8]

/-- The stop command, `[0x01]` (R93). -/
def stopMessage : List Byte := [Config.ctlStopByte]

/-! F-DG (R91). -/

/-- A datagram from its fields (R91, R110). -/
def encodeDatagram (type : Byte) (counter : Counter) (payload : List Byte) : List Byte :=
  type :: counter.setWidth 8 :: (counter >>> 8).setWidth 8 :: payload

/-- The arm of DGRAM that a datagram selects by its length (R100). -/
def decodeDatagram (d : List Byte) : Instr :=
  if shortLength d then .dgramShort d
  else if oversizeLength d then .dgramOversize d
  else .dgramValid d

/-! The decoder. -/

/-- A numeric argument read as a counter. -/
def argCounter (x : Nat) : Option Counter := if x < 65536 then some (BitVec.ofNat 16 x) else none

/-- A numeric argument read as a rate code. -/
def argRate (x : Nat) : Option RateCode := if x < 4 then some (BitVec.ofNat 2 x) else none

/-- A numeric argument read as a verdict in format F-VERDICT. -/
def argVerdict (x : Nat) : Option Verdict := if x < 131072 then decodeVerdict (BitVec.ofNat 17 x) else none

/-- `some i` when `i` is well-formed. -/
def keepWellFormed (i : Instr) : Option Instr := if WellFormed i then some i else none

/-- The operation a call names, when its arguments fit (log entry 9). -/
def decodeCall (selector : Nat) (args : List Nat) (data : List Byte) : Option Instr :=
  match selector, args, data with
  | 0, [], [] => some .stopseq
  | 1, [c], [] => (argRate c).map .ratehz
  | 2, [i], [] => some (.tstamp i)
  | 3, [], d => keepWellFormed (.parse d)
  | 4, [x], [] => (argCounter x).map .adv
  | 5, [r, e], [] => (argCounter r).bind fun r => (argCounter e).map fun e => .gaplen r e
  | 6, [r], [] => (argCounter r).map .classify
  | 7, [r], [] => (argCounter r).map .classifyInorder
  | 8, [r], [] => (argCounter r).map .classifyGap
  | 9, [v], p => (argVerdict v).bind fun v => keepWellFormed (.reasm p v)
  | 10, [v], p => (argVerdict v).bind fun v => keepWellFormed (.gsLoad p v)
  | 11, [], [] => some .gsZfill
  | 12, [], [] => some .gsPayload
  | 13, [], buf => some (.decb buf)
  | _, _, _ => none

/-- One more than the largest selector of `decodeCall`. -/
def selectorCount : Nat := 14

/-- The operation of a packet (R100, R101). Of an event only the operand its code has is read: the other lanes are
ignored (R96, log entry 9). -/
def decode : Packet → Except Reject Instr
  | .evt code rc d =>
    match code.toNat with
    | 0 => .ok .reset
    | 1 => .ok (.start rc)
    | 2 => .ok (.dgram d)
    | 3 => .ok .timeout
    | 4 => .ok .cancel
    | _ => .error (.reservedEventCode code)
  | .ctl msg =>
    match msg with
    | [op, rc] =>
      if op = Config.ctlStartByte && rateCodeOk rc then .ok (.ctlStart (rc.setWidth 2)) else .error .illegalControl
    | [op] => if op = Config.ctlStopByte then .ok .ctlStop else .error .illegalControl
    | _ => .error .illegalControl
  | .dg d => .ok (decodeDatagram d)
  | .record head data =>
    match decodeRecord head data with
    | some (.payload p) => .ok (.recPayload p)
    | some (.gap n) => .ok (.recGap n)
    | none => .error .illegalRecord
  | .group b0 b1 b2 b3 => .ok (.decg b0 b1 b2 b3)
  | .call selector args data =>
    match decodeCall selector args data with
    | some i => .ok i
    | none => if selector < selectorCount then .error (.badArguments selector) else .error (.unknownSelector selector)

/-! The encoder. -/

/-- The packet of an operation, from the same formats. -/
def encode : Instr → Packet
  | .reset => .evt 0 0 []
  | .start rc => .evt 1 rc []
  | .dgram d => .evt 2 0 d
  | .timeout => .evt 3 0 []
  | .cancel => .evt 4 0 []
  | .dgramShort d => .dg d
  | .dgramOversize d => .dg d
  | .dgramValid d => .dg d
  | .ctlStart rc => .ctl (startMessage rc)
  | .ctlStop => .ctl stopMessage
  | .recPayload p => .record (encodeRecordHead (.payload p)) (encodeRecordData (.payload p))
  | .recGap n => .record (encodeRecordHead (.gap n)) (encodeRecordData (.gap n))
  | .decg b0 b1 b2 b3 => .group b0 b1 b2 b3
  | .stopseq => .call 0 [] []
  | .ratehz c => .call 1 [c.toNat] []
  | .tstamp i => .call 2 [i] []
  | .parse d => .call 3 [] d
  | .adv x => .call 4 [x.toNat] []
  | .gaplen r e => .call 5 [r.toNat, e.toNat] []
  | .classify r => .call 6 [r.toNat] []
  | .classifyInorder r => .call 7 [r.toNat] []
  | .classifyGap r => .call 8 [r.toNat] []
  | .reasm p v => .call 9 [(encodeVerdict v).toNat] p
  | .gsLoad p v => .call 10 [(encodeVerdict v).toNat] p
  | .gsZfill => .call 11 [] []
  | .gsPayload => .call 12 [] []
  | .decb buf => .call 13 [] buf

/-- The input events of R96, reserved codes among them: what the environment can send. -/
def Packet.isEvent : Packet → Bool
  | .evt _ _ _ => true
  | _ => false

/-- The RESET event (R240). -/
def Packet.isReset : Packet → Bool
  | .evt code _ _ => code == 0
  | _ => false

/-- The five operations that are input events (R96). -/
def Instr.isInputEvent : Instr → Bool
  | .reset => true
  | .start _ => true
  | .dgram _ => true
  | .timeout => true
  | .cancel => true
  | _ => false

/-! Words of spec/opcode_table.json. -/

/-- The packet whose table bits are `w`. A row's pattern is one unsigned number with the leftmost bit of the pattern
as the most significant (R101), the first byte of a format on the left (R90). 3 bits (one byte): F-EVT with its
operands 0. 16 bits: F-CTL2, byte 0 high. 17 bits (three bytes): an F-REC head with the data bytes its head asks for, all 0.
A 24-bit word above 17 bits: the header of F-DG with an empty payload. 32 bits: F-G4, b0 high. Some rows share a word:
log entry 11 says which of them this function reads. -/
def packetOfTableWord (nbits w : Nat) : Packet :=
  match nbits with
  | 3 => .evt (BitVec.ofNat 3 w) 0 []
  | 8 => .evt (BitVec.ofNat 3 w) 0 []
  | 16 => .ctl [BitVec.ofNat 8 (w / 256), BitVec.ofNat 8 w]
  | 17 => .record (BitVec.ofNat 17 w) (if w < 65536 then List.replicate w 0 else [])
  | 24 =>
    if w < 131072 then .record (BitVec.ofNat 17 w) (if w < 65536 then List.replicate w 0 else [])
    else .dg [BitVec.ofNat 8 (w / 65536), BitVec.ofNat 8 (w / 256), BitVec.ofNat 8 w]
  | 32 => .group (BitVec.ofNat 8 (w / 16777216)) (BitVec.ofNat 8 (w / 65536)) (BitVec.ofNat 8 (w / 256))
      (BitVec.ofNat 8 w)
  | _ => .ctl []

/-- The instruction the decoder reads from a table word of `nbits` bits. -/
def decodeTableWord (nbits w : Nat) : Option Instr :=
  match decode (packetOfTableWord nbits w) with
  | .ok i => some i
  | .error _ => none

end Sys2Proof
end

