-- ==== Sys2Proof/Machine/Memory.lean ====
section
/-! DEFINITION. The bytes of the assembled buffer as a list of (offset, byte) cells in one canonical form
(spec/20_memory.md R60, R62): offsets strictly rising, no byte 0 listed. Which offsets exist is WPTR's matter
(Machine/Ops.lean, `State.memRead`). -/

namespace Sys2Proof.Machine

/-- The stored cells. -/
abbrev Memory := List Host.Cell

/-- What an unlisted offset reads as (log entry 4): only offsets below WPTR are ever read, and each of them was
written by an append. -/
def unlistedByte : Byte := 0

/-- The byte at an offset. -/
def Memory.get : Memory → Nat → Byte
  | [], _ => unlistedByte
  | (k, v) :: rest, a => if k = a then v else Memory.get rest a

/-- A cell put before the first cell of a higher offset. -/
def Memory.insert (a : Nat) (b : Byte) : Memory → Memory
  | [] => [(a, b)]
  | (k, v) :: rest => if a < k then (a, b) :: (k, v) :: rest else (k, v) :: Memory.insert a b rest

/-- One byte written. -/
def Memory.set (m : Memory) (a : Nat) (b : Byte) : Memory :=
  if b = unlistedByte then m.filter (fun c => c.1 != a) else Memory.insert a b (m.filter (fun c => c.1 != a))

/-- Bytes written at rising offsets from `a`. -/
def Memory.write (m : Memory) (a : Nat) : List Byte → Memory
  | [] => m
  | b :: rest => Memory.write (m.set a b) (a + 1) rest

/-- `n` zero bytes written from `a`: the same as `write` of `n` zeros, without building them. -/
def Memory.fillZero (m : Memory) (a n : Nat) : Memory :=
  m.filter (fun c => c.1 < a || a + n ≤ c.1)

/-- The `n` bytes from `a`. -/
def Memory.read (m : Memory) (a n : Nat) : List Byte :=
  (List.range n).map (fun i => m.get (a + i))

/-- The canonical form. -/
def Memory.wf : Memory → Bool
  | [] => true
  | (k, v) :: rest => v != unlistedByte && rest.all (fun c => k < c.1) && Memory.wf rest

end Sys2Proof.Machine
end

