-- ==== Sys2Proof/Machine/State.lean ====
section
/-! DEFINITION. The state of URX (spec/10_state.md R20, R39), the results an operation returns (spec/60_exceptions.md
R210), the reasons a step can stop, and the state after reset (R38). -/

namespace Sys2Proof.Machine

/-- The result of an input event (R210), with the value it records. -/
inductive Result where
  /-- OK, code 0; for a valid DGRAM with the verdict (R185). -/
  | ok (verdict : Option Verdict)
  /-- InvalidConfiguration, code 1, with the rejected code (R211). -/
  | invalidConfiguration (rc : Byte)
  /-- ShortDatagram, code 2, with the length (R212). -/
  | shortDatagram (length : Nat)
  /-- OversizeDatagram, code 3, with the length (R213). -/
  | oversizeDatagram (length : Nat)
  /-- BadState, code 4 (R218). -/
  | badState
  /-- BufferOverflow, code 5 (R217). -/
  | bufferOverflow
deriving DecidableEq, Repr

/-- The value the last operation returned: the result of an event, or the value of an internal operation. -/
inductive Ret where
  /-- Nothing has been returned since reset. -/
  | none
  /-- The result of an input event, or of the event an internal operation is a part of. -/
  | result (r : Result)
  /-- PARSE (R140). -/
  | parsed (type : Byte) (received : Counter) (payload : List Byte)
  /-- ADV and GAPLEN (R142, R144). -/
  | counter (x : BitVec 16)
  /-- CLASSIFY (R146). -/
  | verdict (v : Verdict)
  /-- RATEHZ (R189). -/
  | hertz (n : Nat)
  /-- TSTAMP (R193). -/
  | seconds (t : Rat)
  /-- DECG (R120): `sample1`, `sample2`. -/
  | pair (s1 s2 : Sample)
  /-- DECB (R123). -/
  | samples (l : List Sample)
deriving DecidableEq, Repr

/-- Why the machine stops. No input event raises one. -/
inductive Fault where
  /-- Raised by an INTERNAL operation run in a state, or with an operand, in which the spec's "requires",
  "precondition" or "selected by" line for it does not hold (R140, R146, R167 to R169, R183 to R185, R188); the spec
  gives it no effect there (93 U24: stuck). Safe: the block never runs it so. -/
  | precondition (mnemonic : String)
  /-- Raised by an internal operation with an operand outside the range its format admits (R97, R98, R108, U24).
  Safe: the block never produces such an operand. -/
  | malformed (mnemonic : String)
deriving DecidableEq, Repr

/-- Why a packet has no meaning. -/
inductive Refusal where
  /-- Raised by `exec` for an instruction that has no meaning yet; no arm does. Safe. -/
  | notModelled (mnemonic : String)
  /-- Raised by the step for a packet of an internal format that encodes no operation (R104, R108); an input event
  is never refused so. Safe. -/
  | undecodable (reason : Reject)
deriving DecidableEq, Repr

/-- The state. The fields down to `held` are the spec's; the last four are the model's own. -/
structure State where
  /-- EXPECTED (R21). -/
  expected : Counter
  /-- ABUF (R23): its cells; the offsets that exist are those below `wptr`. -/
  abuf : Memory
  /-- WPTR (R23): the length of ABUF. -/
  wptr : Nat
  /-- SESSION (R26). -/
  session : Session
  /-- RATE (R27). -/
  rate : RateCode
  /-- GS_STATE (R25). -/
  gsState : GsState
  /-- ZREM (R25). -/
  zrem : BitVec 16
  /-- PBUF (R25). -/
  pbuf : Vector Byte 256
  /-- PLEN (R25). -/
  plen : BitVec 9
  /-- DBUF with its length (R29). -/
  dbuf : List Byte
  /-- SAMPLES (R30). -/
  samples : List Sample
  /-- CTL_OUT, oldest first (R31). -/
  ctlOut : List (List Byte)
  /-- FAULT (R32). -/
  fault : Bool
  /-- The events that have arrived and are not yet accepted, oldest first (R39, R219); events with a reserved code
  among them (log entry 15). -/
  held : List Packet
  /-- The environment's packets that have not arrived yet: one batch arrives at each step (R9; log entry 5). -/
  input : List (List Packet)
  /-- The value the last operation returned (R11; log entry 6). -/
  ret : Ret
  /-- BUF_CAP and PTR_W (R7; log entry 7). -/
  params : Config.Params
  /-- The index of the next free value (log entry 8). -/
  freeCtr : Nat
deriving DecidableEq, Repr

/-- The outcome of an operation. -/
abbrev Out := Host.Outcome State Fault Refusal

/-- The machine right after reset (R38). PBUF, which R38 leaves unspecified, is named in log entry 1. -/
def State.reset : State where
  expected := Config.expectedInit
  abuf := []
  wptr := 0
  session := .idle
  rate := 0
  gsState := .idle
  zrem := 0
  pbuf := Vector.replicate 256 0
  plen := 0
  dbuf := []
  samples := []
  ctlOut := []
  fault := false
  held := []
  input := []
  ret := .none
  params := Config.defaultParams
  freeCtr := 0

end Sys2Proof.Machine
end

