-- ==== Sys2Proof/Machine/Flags.lean ====
section
/-! DEFINITION. The tests that decide an event's result and the one flag of the block (spec/10_state.md R32, R36;
spec/43_session.md R190; spec/60_exceptions.md R210, R217, R221). No operation sets a flag as a side effect; FAULT is set
by `State.raise` of Machine/Ops.lean alone. -/

namespace Sys2Proof.Machine

/-- The code of a result (R210). -/
def Result.code : Result → Nat
  | .ok _ => 0
  | .invalidConfiguration _ => 1
  | .shortDatagram _ => 2
  | .oversizeDatagram _ => 3
  | .badState => 4
  | .bufferOverflow => 5

/-- The capacity test of REASM and GS.LOAD for `n` more bytes: within BUF_CAP, and the new WPTR fits in PTR_W bits
(R160, R167, R217). -/
def State.fits (s : State) (n : Nat) : Bool :=
  (match s.params.bufCap with
   | none => true
   | some cap => s.wptr + n ≤ cap) &&
  (match s.params.ptrW with
   | none => true
   | some w => s.wptr + n < 2 ^ w)

/-- The synthesizer is not in GS_IDLE (R166). -/
def State.busy (s : State) : Bool := s.gsState != .idle

/-- An input event other than RESET has to wait (R171); under FAULT it is refused at once, whatever
GS_STATE holds (R32, R190; DEDUCED, log entry 8). -/
def State.mustHold (s : State) : Bool := s.busy && !s.fault

/-- DGRAM, TIMEOUT and CANCEL are accepted: FAULT is 0 and SESSION is Started or Receiving (R182, R186, R187). -/
def State.sessionOpen (s : State) : Bool :=
  !s.fault && (s.session == .started || s.session == .receiving)

/-- START is accepted: FAULT is 0 and SESSION is Idle (R181). -/
def State.startable (s : State) : Bool := !s.fault && s.session == .idle

end Sys2Proof.Machine
end

