-- ==== Sys2Proof/Machine/Ops.lean ====
section
/-! DEFINITION. The named operations over the state (spec/00_scope.md R14): reading and appending to ABUF, emitting,
raising a result (spec/60_exceptions.md R217, R223), and the shared steps the operations of the block are made of. -/

namespace Sys2Proof.Machine

/-! Results. -/

/-- `return v`. -/
def State.withRet (s : State) (v : Ret) : State := { s with ret := v }

/-- `return OK`. -/
def State.returnOk (s : State) : State := s.withRet (.result (.ok none))

/-- Every element that nothing is guaranteed of after a BufferOverflow takes a free value (U16). The bytes of ABUF are
laid out canonically; their number and WPTR are unrelated. -/
def State.scramble (s : State) : State :=
  { s with
    expected := Config.freeExpected s.freeCtr
    abuf := Memory.write [] 0 (Config.freeAbuf s.freeCtr)
    wptr := Config.freeWptr s.freeCtr
    samples := Config.freeSamples s.freeCtr
    gsState := Config.freeGsState s.freeCtr
    zrem := Config.freeZrem s.freeCtr
    plen := Config.freePlen s.freeCtr
    pbuf := Config.freePbuf s.freeCtr
    freeCtr := s.freeCtr + 1 }

/-- `raise E`: the event ends with result E and exactly the state changes its rule lists (R14, R223). Only
BufferOverflow has any: FAULT is set, and nothing is guaranteed of the data path (R217). -/
def State.raise (s : State) : Result → State
  | .bufferOverflow => { s.scramble with fault := true, ret := .result .bufferOverflow }
  | e => s.withRet (.result e)

/-! The spaces ABUF and CTL_OUT. -/

/-- `MemRead(addr, n)`, defined only within ABUF (R14). -/
def State.memRead (s : State) (addr n : Nat) : Option (List Byte) :=
  if addr + n ≤ s.wptr then some (s.abuf.read addr n) else none

/-- The whole of ABUF, `MemRead(0, x[WPTR])` (R188). -/
def State.abufBytes (s : State) : List Byte := s.abuf.read 0 s.wptr

/-- `Append(v)` (R14, R23). -/
def State.append (s : State) (v : List Byte) : State :=
  { s with abuf := s.abuf.write s.wptr v, wptr := s.wptr + v.length }

/-- `Append(zeros(n))` (R160, R168). -/
def State.appendZeros (s : State) (n : Nat) : State :=
  { s with abuf := s.abuf.fillZero s.wptr n, wptr := s.wptr + n }

/-- `Emit(m)` (R14, R31). -/
def State.emit (s : State) (m : List Byte) : State := { s with ctlOut := s.ctlOut ++ [m] }

/-! Tracker. -/

/-- The verdict of CLASSIFY (R146). -/
def State.verdictOn (s : State) (received : Counter) : Verdict :=
  if received = s.expected then .inOrder else .gap (gaplen received s.expected)

/-- The write of CLASSIFY.INORDER: EXPECTED advances (R146). -/
def State.advanceExpected (s : State) : State := { s with expected := adv s.expected }

/-- The write of CLASSIFY.GAP: EXPECTED resynchronises to the counter seen (R146, R147). -/
def State.resynchronise (s : State) (received : Counter) : State := { s with expected := adv received }

/-- The state after CLASSIFY, by its two arms (R146). -/
def State.classified (s : State) (received : Counter) : State :=
  if received = s.expected then s.advanceExpected else s.resynchronise received

/-! Reassembler and gap synthesizer. -/

/-- The bytes one datagram adds to ABUF: its fill and its payload (R160). -/
def unitBytes (payload : List Byte) (v : Verdict) : Nat := v.fillBytes + payload.length

/-- REASM with its capacity test passed: zeros first, then the payload (R160, R161). -/
def State.reassemble (s : State) (payload : List Byte) (v : Verdict) : State :=
  (s.appendZeros v.fillBytes).append payload

/-- `x[PBUF][0 .. len(p)-1] <- p`; the rest of PBUF keeps its bytes (R167). -/
def loadPbuf (old : Vector Byte 256) (p : List Byte) : Vector Byte 256 :=
  ⟨((p ++ old.toList.drop p.length).take 256).toArray, by simp; omega⟩

/-- The valid bytes of PBUF, `x[PBUF][0 .. x[PLEN]-1]` (R169). -/
def State.pbufBytes (s : State) : List Byte := s.pbuf.toList.take s.plen.toNat

/-- GS.LOAD with its capacity test passed (R167). -/
def State.loadSynthesizer (s : State) (payload : List Byte) (v : Verdict) : State :=
  { s with
    pbuf := loadPbuf s.pbuf payload
    plen := BitVec.ofNat 9 payload.length
    zrem := v.count
    gsState := if v.count = 0 then .payload else .zfill }

/-- GS.ZFILL: one block appended, ZREM decremented and then tested (R168). -/
def State.zeroFillBlock (s : State) : State :=
  { s.appendZeros Config.blockBytes with
    zrem := s.zrem - 1
    gsState := if s.zrem - 1 = 0 then .payload else s.gsState }

/-- GS.PAYLOAD: the payload appended, back to GS_IDLE (R169). It returns nothing: the OK of the datagram was returned
when it was accepted (log entry 16). -/
def State.flushPayload (s : State) : State :=
  { s.append s.pbufBytes with gsState := .idle }

/-! Session. -/

/-- An input event that arrives while the synthesizer is busy waits behind those that came before it (R171). -/
def State.hold (s : State) (p : Packet) : State := { s with held := s.held ++ [p] }

/-- The writes of an accepted START (R181). -/
def State.openSession (s : State) (rc : Byte) : State :=
  { (({ s with
        rate := rc.setWidth 2
        expected := Config.expectedInit
        abuf := []
        wptr := 0 } : State).emit (startMessage (rc.setWidth 2))) with session := .started }

/-- Started becomes Receiving with the first DGRAM the session accepts; Receiving stays (R182, R196). -/
def State.enterReceiving (s : State) : State := { s with session := .receiving }

/-- The load of DBUF by a DGRAM event: the whole datagram, for one that is not oversize (R72). -/
def State.loadDbuf (s : State) (d : List Byte) : State :=
  if oversizeLength d then s else { s with dbuf := d }

/-- The end of a DGRAM event: the content of DBUF is dead (R29), so any datagram DBUF has room for may stand there
(U17; log entry 3). For a valid datagram that is the end of its acceptance, before the fill (log entry 16). -/
def State.expireDbuf (s : State) : State :=
  { s with dbuf := (Config.freeDbuf s.freeCtr).take Config.datagramMax, freeCtr := s.freeCtr + 1 }

/-- DGRAM.SHORT (R183). -/
def State.rejectShort (s : State) (d : List Byte) : State := s.raise (.shortDatagram d.length)

/-- DGRAM.OVERSIZE (R184). -/
def State.rejectOversize (s : State) (d : List Byte) : State := s.raise (.oversizeDatagram d.length)

/-- DGRAM.VALID: PARSE, CLASSIFY, GS.LOAD; the result carries the verdict (R185). The test of the capacity comes
after CLASSIFY has written EXPECTED (R221). DESIGN CHOICE (log entry 16): the OK is returned here, in the step that
accepts the datagram, and not after the micro-steps of its fill; R185, R10 and R167 leave the step open. -/
def State.receiveValid (s : State) (d : List Byte) : State :=
  if (s.classified (parse d).2.1).fits (unitBytes (parse d).2.2 (s.verdictOn (parse d).2.1)) then
    ((s.classified (parse d).2.1).loadSynthesizer (parse d).2.2 (s.verdictOn (parse d).2.1)).withRet
      (.result (.ok (some (s.verdictOn (parse d).2.1))))
  else
    (s.classified (parse d).2.1).raise .bufferOverflow

/-- The arm of DGRAM that the length selects, on the datagram in DBUF where it was loaded (R182, R221). -/
def State.dispatchDatagram (s : State) (d : List Byte) : State :=
  if shortLength d then s.rejectShort d
  else if oversizeLength d then s.rejectOversize d
  else s.receiveValid s.dbuf

/-- An accepted DGRAM event (R182). -/
def State.acceptDatagram (s : State) (d : List Byte) : State :=
  ((s.enterReceiving.loadDbuf d).dispatchDatagram d).expireDbuf

/-- STOPSEQ: the stop message first, the decode second (R188). -/
def State.stopSequence (s : State) : State :=
  ({ s.emit stopMessage with
      samples := decodeBuffer s.abufBytes
      session := .stopped } : State).returnOk

/-- RESET (R240, R38): every element to its reset value, every held event discarded, PBUF free (U17); what the model
adds (the environment's arrivals, the parameters) is not the block's to reset. DESIGN CHOICE (log entry 14): a held
event that is discarded, one with a reserved code too (log entry 15), returns no result; `ret` shows the OK of the
RESET alone. -/
def State.resetBlock (s : State) : State :=
  { State.reset with
    pbuf := Config.freePbuf s.freeCtr
    input := s.input
    ret := .result (.ok none)
    params := s.params
    freeCtr := s.freeCtr + 1 }

end Sys2Proof.Machine
end

