-- ==== Sys2Proof/Machine/Decoder.lean ====
section
/-! DEFINITION. The Sample Decoder (spec/40_decoder.md): pure operations, whose value is what they return. -/

namespace Sys2Proof.Machine

/-- DECG (R120). -/
def execDecg (b0 b1 b2 b3 : Byte) (s : State) : Out :=
  .next (s.withRet (.pair (decodeGroup b0 b1 b2 b3).1 (decodeGroup b0 b1 b2 b3).2))

/-- DECB (R123): the stop sequence, not DECB, stores the result in SAMPLES. -/
def execDecb (buf : List Byte) (s : State) : Out := .next (s.withRet (.samples (decodeBuffer buf)))

end Sys2Proof.Machine
end

