-- ==== Sys2Proof/Machine/Reassembler.lean ====
section
/-! DEFINITION. The Stream Reassembler and the gap synthesizer (spec/42_reassembler.md). -/

namespace Sys2Proof.Machine

/-- REASM, the atomic view (R160). -/
def execReasm (payload : List Byte) (v : Verdict) (s : State) : Out :=
  if payloadOk payload && verdictOk v then
    if s.fits (unitBytes payload v) then .next (s.reassemble payload v) else .next (s.raise .bufferOverflow)
  else .fault (.malformed "REASM")

/-- REC.PAYLOAD (R163). -/
def execRecPayload (p : List Byte) (s : State) : Out :=
  if payloadOk p then
    if s.fits p.length then .next (s.append p) else .next (s.raise .bufferOverflow)
  else .fault (.malformed "REC.PAYLOAD")

/-- REC.GAP (R164): a count of 0 appends nothing. -/
def execRecGap (missingCount : BitVec 16) (s : State) : Out :=
  if s.fits (Config.blockBytes * missingCount.toNat) then
    .next (s.appendZeros (Config.blockBytes * missingCount.toNat))
  else .next (s.raise .bufferOverflow)

/-- GS.LOAD (R167); its precondition is GS_STATE = GS_IDLE. -/
def execGsLoad (payload : List Byte) (v : Verdict) (s : State) : Out :=
  if payloadOk payload && verdictOk v then
    if s.busy then .fault (.precondition "GS.LOAD")
    else if s.fits (unitBytes payload v) then .next (s.loadSynthesizer payload v)
    else .next (s.raise .bufferOverflow)
  else .fault (.malformed "GS.LOAD")

/-- GS.ZFILL (R168); its precondition is GS_STATE = GS_ZFILL, and so ZREM at least 1. -/
def execGsZfill (s : State) : Out :=
  if s.gsState = .zfill ∧ s.zrem ≠ 0 then .next s.zeroFillBlock else .fault (.precondition "GS.ZFILL")

/-- GS.PAYLOAD (R169); its precondition is GS_STATE = GS_PAYLOAD. -/
def execGsPayload (s : State) : Out :=
  if s.gsState = .payload then .next s.flushPayload else .fault (.precondition "GS.PAYLOAD")

end Sys2Proof.Machine
end

