-- ==== Sys2Proof/Machine/Reset.lean ====
section
/-! DEFINITION. RESET (spec/70_reset_and_hazards.md R240). -/

namespace Sys2Proof.Machine

/-- RESET: accepted in every state, never held, never refused (R240). -/
def execReset (s : State) : Out := .next s.resetBlock

end Sys2Proof.Machine
end

