-- ==== Sys2Proof/Machine/Session.lean ====
section
/-! DEFINITION. The Acquisition Session (spec/43_session.md): the input events but RESET, the arms of DGRAM, the stop
sequence, the control messages, the rate table and the timestamp. -/

namespace Sys2Proof.Machine

/-- START (R181): held while the synthesizer is busy (R171), then the code test, then the state test (R221). -/
def execStart (rc : Byte) (s : State) : Out :=
  if s.mustHold then .next (s.hold (encode (.start rc)))
  else if !rateCodeOk rc then .next (s.raise (.invalidConfiguration rc))
  else if !s.startable then .next (s.raise .badState)
  else .next (s.openSession rc).returnOk

/-- DGRAM (R182): held while the synthesizer is busy, dropped with BadState outside a session. -/
def execDgram (d : List Byte) (s : State) : Out :=
  if s.mustHold then .next (s.hold (encode (.dgram d)))
  else if !s.sessionOpen then .next (s.raise .badState)
  else .next (s.acceptDatagram d)

/-- DGRAM.SHORT (R183), selected by `len(d) < 3`. -/
def execDgramShort (d : List Byte) (s : State) : Out :=
  if shortLength d then .next (s.rejectShort d) else .fault (.precondition "DGRAM.SHORT")

/-- DGRAM.OVERSIZE (R184), selected by `len(d) > 259`. -/
def execDgramOversize (d : List Byte) (s : State) : Out :=
  if oversizeLength d then .next (s.rejectOversize d) else .fault (.precondition "DGRAM.OVERSIZE")

/-- DGRAM.VALID (R185), selected by `3 <= len(d) <= 259`; its GS.LOAD has the precondition GS_STATE = GS_IDLE
(R167). -/
def execDgramValid (d : List Byte) (s : State) : Out :=
  if validLength d && !s.busy then .next (s.receiveValid d) else .fault (.precondition "DGRAM.VALID")

/-- TIMEOUT (R186). -/
def execTimeout (s : State) : Out :=
  if s.mustHold then .next (s.hold (encode .timeout))
  else if !s.sessionOpen then .next (s.raise .badState)
  else .next s.stopSequence

/-- CANCEL (R187). -/
def execCancel (s : State) : Out :=
  if s.mustHold then .next (s.hold (encode .cancel))
  else if !s.sessionOpen then .next (s.raise .badState)
  else .next s.stopSequence

/-- STOPSEQ (R188), run by an accepted TIMEOUT or CANCEL: in Started or Receiving, with GS_STATE = GS_IDLE and
FAULT = 0. -/
def execStopseq (s : State) : Out :=
  if s.sessionOpen && !s.busy then .next s.stopSequence else .fault (.precondition "STOPSEQ")

/-- CTL.START: the emission of `[0x00, rc]` (R191). -/
def execCtlStart (rc : RateCode) (s : State) : Out := .next (s.emit (startMessage rc))

/-- CTL.STOP: the emission of `[0x01]` (R192). -/
def execCtlStop (s : State) : Out := .next (s.emit stopMessage)

/-- RATEHZ (R189). -/
def execRatehz (c : RateCode) (s : State) : Out := .next (s.withRet (.hertz (rateRom c)))

/-- TSTAMP (R193), at the session's rate. -/
def execTstamp (i : Nat) (s : State) : Out := .next (s.withRet (.seconds (timestamp s.rate i)))

end Sys2Proof.Machine
end

