-- ==== Sys2Proof/Machine/Tracker.lean ====
section
/-! DEFINITION. The Sequence Tracker (spec/41_tracker.md). -/

namespace Sys2Proof.Machine

/-- PARSE (R140); it requires a datagram of 3 to 259 bytes. -/
def execParse (d : List Byte) (s : State) : Out :=
  if validLength d then .next (s.withRet (.parsed (parse d).1 (parse d).2.1 (parse d).2.2))
  else .fault (.precondition "PARSE")

/-- ADV (R142). -/
def execAdv (x : Counter) (s : State) : Out := .next (s.withRet (.counter (adv x)))

/-- GAPLEN (R144). -/
def execGaplen (received expected : Counter) (s : State) : Out :=
  .next (s.withRet (.counter (gaplen received expected)))

/-- CLASSIFY (R146). -/
def execClassify (received : Counter) (s : State) : Out :=
  .next ((s.classified received).withRet (.verdict (s.verdictOn received)))

/-- CLASSIFY.INORDER (R146), selected by `received == x[EXPECTED]`. -/
def execClassifyInorder (received : Counter) (s : State) : Out :=
  if received = s.expected then .next (s.advanceExpected.withRet (.verdict .inOrder))
  else .fault (.precondition "CLASSIFY.INORDER")

/-- CLASSIFY.GAP (R146), selected by `received != x[EXPECTED]`. -/
def execClassifyGap (received : Counter) (s : State) : Out :=
  if received = s.expected then .fault (.precondition "CLASSIFY.GAP")
  else .next ((s.resynchronise received).withRet (.verdict (.gap (gaplen received s.expected))))

end Sys2Proof.Machine
end

