-- ==== Sys2Proof/Machine/Dispatch.lean ====
section
/-! DEFINITION. One arm per operation, each one call of its meaning. -/

namespace Sys2Proof.Machine

def exec (i : Instr) (s : State) : Host.Outcome State Fault Refusal :=
  match i with
  | .reset => Sys2Proof.Machine.execReset s
  | .start rc => Sys2Proof.Machine.execStart rc s
  | .dgram d => Sys2Proof.Machine.execDgram d s
  | .dgramShort d => Sys2Proof.Machine.execDgramShort d s
  | .dgramOversize d => Sys2Proof.Machine.execDgramOversize d s
  | .dgramValid d => Sys2Proof.Machine.execDgramValid d s
  | .timeout => Sys2Proof.Machine.execTimeout s
  | .cancel => Sys2Proof.Machine.execCancel s
  | .stopseq => Sys2Proof.Machine.execStopseq s
  | .ctlStart rc => Sys2Proof.Machine.execCtlStart rc s
  | .ctlStop => Sys2Proof.Machine.execCtlStop s
  | .ratehz c => Sys2Proof.Machine.execRatehz c s
  | .tstamp n => Sys2Proof.Machine.execTstamp n s
  | .parse d => Sys2Proof.Machine.execParse d s
  | .adv x => Sys2Proof.Machine.execAdv x s
  | .gaplen r e => Sys2Proof.Machine.execGaplen r e s
  | .classify r => Sys2Proof.Machine.execClassify r s
  | .classifyInorder r => Sys2Proof.Machine.execClassifyInorder r s
  | .classifyGap r => Sys2Proof.Machine.execClassifyGap r s
  | .reasm p v => Sys2Proof.Machine.execReasm p v s
  | .recPayload p => Sys2Proof.Machine.execRecPayload p s
  | .recGap n => Sys2Proof.Machine.execRecGap n s
  | .gsLoad p v => Sys2Proof.Machine.execGsLoad p v s
  | .gsZfill => Sys2Proof.Machine.execGsZfill s
  | .gsPayload => Sys2Proof.Machine.execGsPayload s
  | .decg b0 b1 b2 b3 => Sys2Proof.Machine.execDecg b0 b1 b2 b3 s
  | .decb buf => Sys2Proof.Machine.execDecb buf s

end Sys2Proof.Machine
end

