-- ==== Sys2Proof/Machine/Sequencer.lean ====
section
/-! DEFINITION. What the block does next (spec/00_scope.md R10; spec/42_reassembler.md R166, R171;
spec/60_exceptions.md R219, R222): a batch of packets arrives, then one operation is selected. -/

namespace Sys2Proof.Machine

/-- What a step does once its batch has arrived. -/
inductive Pick where
  /-- Run this operation in this state. -/
  | run (i : Instr) (s : State)
  /-- Nothing is left to run: this is the next state. -/
  | settle (s : State)
  /-- The packet taken encodes no operation. -/
  | stop (r : Reject)
deriving DecidableEq, Repr

/-- The first batch of the environment's schedule arrives, behind the packets already held (R39, R219). -/
def State.arrive (s : State) : State :=
  match s.input with
  | [] => s
  | batch :: rest => { s with held := s.held ++ batch, input := rest }

/-- A RESET is pending; it goes before everything else (R222, R240). -/
def State.resetPending (s : State) : Bool := s.held.any Packet.isReset

/-- Packets put in front of the environment's schedule. -/
def putBack (later : List Packet) (input : List (List Packet)) : List (List Packet) :=
  match later, input with
  | [], input => input
  | p :: ps, [] => [p :: ps]
  | p :: ps, batch :: rest => (p :: ps ++ batch) :: rest

/-- The state in which a pending RESET is accepted: what arrived before it is held, and is about to be discarded; what
came behind it, in the same batch, arrives after it (R222, R240). -/
def State.atReset (s : State) : State :=
  { s with
    held := s.held.takeWhile (fun p => !p.isReset)
    input := putBack (s.held.dropWhile (fun p => !p.isReset)).tail s.input }

/-- The oldest held packet is taken, or the block waits (R232). An event with a reserved code is refused with
BadState and changes nothing (R107); when its turn comes is log entry 15. A waiting block keeps its state; while
FAULT is 1 nothing is guaranteed of the data path at any time (R32, U16), so it takes new free values. -/
def State.takeHeld (s : State) : Pick :=
  match s.held with
  | [] => if s.fault then .settle s.scramble else .settle s
  | p :: rest =>
    match decode p with
    | .ok i => .run i { s with held := rest }
    | .error (.reservedEventCode _) => .settle (({ s with held := rest } : State).raise .badState)
    | .error r => .stop r

/-- The operation of this step: a pending RESET first; with FAULT = 1 the next event, to be refused (R190), whatever
GS_STATE holds (DEDUCED, log entry 8); else the micro-step of a busy synthesizer (R166), and only in GS_IDLE the next
event (R171). DESIGN CHOICE (log entry 15): R107
does not say when a reserved code is refused and R171 holds input events, which such an event is not (R16, D3); here it
is held during a fill as they are and gets its BadState in GS_IDLE, unless a RESET discards it first (log entry 14). -/
def State.pick (s : State) : Pick :=
  if s.resetPending then .run .reset s.atReset
  else if s.fault then s.takeHeld
  else
    match s.gsState with
    | .zfill => .run .gsZfill s
    | .payload => .run .gsPayload s
    | .idle => s.takeHeld

/-- A packet put where the next step takes its operation: alone in the queue, with nothing arriving in that step and
the synthesizer idle (log entry 5). -/
def State.placePacket (s : State) (p : Packet) : State :=
  { s with held := [p], input := [] :: s.input, gsState := .idle }

end Sys2Proof.Machine
end

