-- ==== Sys2Proof/Machine/Step.lean ====
section
/-! DEFINITION. The step of the machine (spec/00_scope.md R10) and the place it takes its next operation from. -/

namespace Sys2Proof.Machine

/-- One step: a batch arrives, then the selected operation runs to its end. -/
def step (s : State) : Host.Outcome State Fault Refusal :=
  match s.arrive.pick with
  | .run i t => exec i t
  | .settle t => .next t
  | .stop r => .refused (.undecodable r)

/-- `s` with the operation of a table word where the next step takes it. -/
def State.withFetchWord (s : State) (nbits w : Nat) : State := s.placePacket (packetOfTableWord nbits w)

end Sys2Proof.Machine
end

