-- ==== Sys2Proof/Machine/Trace.lean ====
section
/-! DEFINITION. The trace notation (spec/30_encoding.md R110, R111): its lines, their events, and a reader of one line
of text, given as its characters. -/

namespace Sys2Proof.Machine

/-- One line of a trace: the six notations of R110 and the three pseudo-operations of R111. -/
inductive TraceLine where
  | reset
  | start (rc : Byte)
  | dg (type : Byte) (counter : Counter) (payload : List Byte)
  | raw (d : List Byte)
  | timeout
  | cancel
  | stop
  | dgf (type : Byte) (counter : Counter) (fill : Byte)
  | dge (type : Byte) (counter : Counter)
deriving DecidableEq, Repr

/-- The event a line stands for, each pseudo-operation by its expansion (R110, R111). -/
def TraceLine.event : TraceLine → Instr
  | .reset => .reset
  | .start rc => .start rc
  | .dg t c p => .dgram (encodeDatagram t c p)
  | .raw d => .dgram d
  | .timeout => .timeout
  | .cancel => .cancel
  | .stop => .timeout
  | .dgf t c b => .dgram (encodeDatagram t c (List.replicate Config.blockBytes b))
  | .dge t c => .dgram (encodeDatagram t c [])

/-- The environment's schedule that delivers a trace, one event a step (log entry 5). -/
def traceInput (t : List TraceLine) : List (List Packet) := t.map (fun l => [encode l.event])

/-! Reading a line. -/

/-- The value of a digit in base 16, `none` for another character. -/
def digitValue (c : Char) : Option Nat :=
  if '0' ≤ c ∧ c ≤ '9' then some (c.toNat - '0'.toNat)
  else if 'a' ≤ c ∧ c ≤ 'f' then some (c.toNat - 'a'.toNat + 10)
  else if 'A' ≤ c ∧ c ≤ 'F' then some (c.toNat - 'A'.toNat + 10)
  else none

/-- Digits in a base, most significant first, onto an accumulator. -/
def digitsValue (base : Nat) (acc : Nat) : List Char → Option Nat
  | [] => some acc
  | c :: rest =>
    match digitValue c with
    | some v => if v < base then digitsValue base (acc * base + v) rest else none
    | none => none

/-- A number: decimal unless prefixed `0x` (R110). -/
def readNumber : List Char → Option Nat
  | [] => none
  | '0' :: 'x' :: rest => if rest = [] then none else digitsValue 16 0 rest
  | cs => digitsValue 10 0 cs

/-- A number below a bound, as a bit vector. -/
def readField (w : Nat) (cs : List Char) : Option (BitVec w) :=
  match readNumber cs with
  | some n => if n < 2 ^ w then some (BitVec.ofNat w n) else none
  | none => none

/-- One byte of two hex digits (R110). -/
def readHexByte : List Char → Option Byte
  | [hi, lo] => (digitsValue 16 0 [hi, lo]).map (BitVec.ofNat 8)
  | _ => none

/-- The bytes after the colon (R110). -/
def readBytes : List (List Char) → Option (List Byte)
  | [] => some []
  | w :: rest => (readHexByte w).bind fun b => (readBytes rest).map fun bs => b :: bs

/-- The words of a line: separated by spaces, `#` starts a comment (R110). -/
def splitWords (word : List Char) : List Char → List (List Char)
  | [] => if word = [] then [] else [word.reverse]
  | c :: rest =>
    if c = '#' then (if word = [] then [] else [word.reverse])
    else if c = ' ' then (if word = [] then splitWords [] rest else word.reverse :: splitWords [] rest)
    else splitWords (c :: word) rest

/-- The line its words stand for. -/
def readWords : List (List Char) → Option TraceLine
  | [['R', 'E', 'S', 'E', 'T']] => some .reset
  | [['S', 'T', 'A', 'R', 'T'], rc] => (readField 8 rc).map .start
  | ['D', 'G'] :: t :: c :: [':'] :: p =>
    (readField 8 t).bind fun t => (readField 16 c).bind fun c => (readBytes p).map fun p => .dg t c p
  | ['R', 'A', 'W'] :: [':'] :: d => (readBytes d).map .raw
  | [['T', 'I', 'M', 'E', 'O', 'U', 'T']] => some .timeout
  | [['C', 'A', 'N', 'C', 'E', 'L']] => some .cancel
  | [['S', 'T', 'O', 'P']] => some .stop
  | [['D', 'G', 'F'], t, c, b] =>
    (readField 8 t).bind fun t => (readField 16 c).bind fun c => (readField 8 b).map fun b => .dgf t c b
  | [['D', 'G', 'E'], t, c] => (readField 8 t).bind fun t => (readField 16 c).map fun c => .dge t c
  | _ => none

/-- One line of a trace; `none` where the notation has no such line. -/
def readTraceLine (cs : List Char) : Option TraceLine := readWords (splitWords [] cs)

end Sys2Proof.Machine
end

