-- ==== Sys2Proof/Machine/View.lean ====
section
/-! DEFINITION. What a host can observe: the read-only status view (spec/10_state.md R37) and the output artifact
(spec/43_session.md R194, spec/30_encoding.md R95). No read changes the state (spec/20_memory.md R74). -/

namespace Sys2Proof.Machine

/-- The status view, entries 0 to 6; unlisted bits read 0, and no other entry exists (R37). -/
def State.statusView (s : State) (number : Nat) : Option Nat :=
  match number with
  | 0 => some s.session.code.toNat
  | 1 => some s.rate.toNat
  | 2 => some s.expected.toNat
  | 3 => some s.wptr
  | 4 => some (s.gsState.code.toNat + 4 * s.zrem.toNat)
  | 5 => some s.fault.toNat
  | 6 => some s.samples.length
  | _ => none

/-- The output artifact: element `i` is `(TSTAMP(i), SAMPLES[i])`, offered in Stopped (R194). -/
def State.artifact (s : State) : List (Rat × Sample) :=
  if s.session = .stopped then s.samples.zipIdx.map (fun e => (timestamp s.rate e.2, e.1)) else []

end Sys2Proof.Machine
end

