-- ==== Sys2Proof/Safety.lean ====
section
/-! DEFINITION. What counts as a good state and a finished session, and the functions of a trace that the claims compare the
machine with (spec/43_session.md R195, R197; spec/70_reset_and_hazards.md R258). -/

namespace Sys2Proof.Machine

/-- A session is over (R258). -/
def State.SessionOver (s : State) : Prop := s.session = .stopped ∧ s.gsState = .idle ∧ s.fault = false

/-- Only input events are held or still to arrive: the environment of R9, which sends no packet of an internal
format. -/
def State.OnlyEvents (s : State) : Prop :=
  (∀ p ∈ s.held, p.isEvent = true) ∧ ∀ b ∈ s.input, ∀ p ∈ b, p.isEvent = true

/-- No RESET is held or still to arrive. -/
def State.NoReset (s : State) : Prop :=
  (∀ p ∈ s.held, p.isReset = false) ∧ ∀ b ∈ s.input, ∀ p ∈ b, p.isReset = false

/-- The bytes the synthesizer still has to append (R168, R169). -/
def State.pendingBytes (s : State) : Nat :=
  match s.gsState with
  | .idle => 0
  | .zfill => 256 * s.zrem.toNat + s.plen.toNat
  | .payload => s.plen.toNat

/-- What CTL_OUT holds in each state of the session (R195). -/
def messagesOf (session : Session) (rate : RateCode) : List (List Byte) :=
  match session with
  | .idle => []
  | .started => [startMessage rate]
  | .receiving => [startMessage rate]
  | .stopped => [startMessage rate, stopMessage]

/-- What holds of the data path while FAULT is 0. -/
structure State.DataInv (s : State) : Prop where
  /-- No byte is stored at or above WPTR (R23). -/
  belowWptr : ∀ c ∈ s.abuf, c.1 < s.wptr
  /-- PLEN is 0 to 256 (R25). -/
  plenBound : s.plen.toNat ≤ 256
  /-- In GS_ZFILL, ZREM is never 0 (R166). -/
  zfillCount : s.gsState = .zfill → s.zrem ≠ 0
  /-- The fill is over when the payload's turn comes (R166). -/
  payloadCount : s.gsState = .payload → s.zrem = 0
  /-- The synthesizer is busy only while a datagram of the session is being reassembled (R166). -/
  busyReceiving : s.gsState ≠ .idle → s.session = .receiving
  /-- What is still to be appended fits: the capacity was tested for the whole datagram (R167). -/
  capacity : s.fits s.pendingBytes = true
  /-- SAMPLES is empty until Stopped, and then the decode of ABUF (R30). -/
  samplesAtStop : s.samples = if s.session = .stopped then decodeBuffer s.abufBytes else []
  /-- Nothing has been received in Idle (R38). -/
  idleEmpty : s.session = .idle → s.expected = 0 ∧ s.abuf = [] ∧ s.wptr = 0

/-- The invariant of the block in an environment that sends input events only. -/
structure State.Inv (s : State) : Prop where
  /-- The cells of ABUF keep their canonical form. -/
  canonical : s.abuf.wf = true
  /-- Only input events are held or to arrive (R39). -/
  onlyEvents : s.OnlyEvents
  /-- DBUF has room for 259 bytes (R29). -/
  dbufRoom : s.dbuf.length ≤ 259
  /-- CTL_OUT is what the state of the session says (R195). -/
  messages : s.ctlOut = messagesOf s.session s.rate
  /-- FAULT arises only with a finite capacity and in a session (R32). -/
  faultOnlyFinite : s.fault = true → s.params ≠ Config.defaultParams ∧ s.session = .receiving
  /-- The data path, while FAULT is 0 (R217). -/
  data : s.fault = false → s.DataInv

/-- `k` steps, as far as they answer next states. -/
def stepN : Nat → State → Out
  | 0, s => .next s
  | k + 1, s =>
    match step s with
    | .next t => stepN k t
    | .fault r => .fault r
    | .refused r => .refused r

/-! The session as a function of its datagrams (R197). -/

/-- What the datagrams of a session add to ABUF, from a value of EXPECTED: those that are not 3 to 259 bytes long add
nothing. -/
def assembledFrom (e : Counter) : List (List Byte) → List Byte
  | [] => []
  | d :: ds =>
    if validLength d then
      List.replicate (256 * (gaplen (receivedOf d) e).toNat) 0 ++ payloadOf d ++ assembledFrom (adv (receivedOf d)) ds
    else assembledFrom e ds

/-- EXPECTED after the datagrams of a session. -/
def expectedAfter (e : Counter) : List (List Byte) → Counter
  | [] => e
  | d :: ds => if validLength d then expectedAfter (adv (receivedOf d)) ds else expectedAfter e ds

end Sys2Proof.Machine
end

