-- ==== Sys2Proof/Certificates/Slice0/Obligations.lean ====
section
/-! DEFINITION. The statements for the provers. Each docstring says which rules of spec/ it formalises; where a clause is the
model's own choice it says so and names the log entry. -/

open Sys2Proof Sys2Proof.Machine

/-! Encoding. -/

/-- Every well-formed operation is read back from its packet, with every operand at every value its encoding admits
(R91 to R98; the call packets are the model's own, log entry 9). -/
def Obligations.DecodeOfEncodeIsTheInstruction : Prop :=
  ∀ i : Instr, WellFormed i = true → decode (encode i) = .ok i

/-- What the decoder reads is well-formed, and outside the event format each packet that decodes is the encoding of
what it decodes to, so no two packets share a meaning (R97, R98, R104, R108; log entry 9 for the calls). -/
def Obligations.DecodedPacketsAreCanonical : Prop :=
  ∀ (p : Packet) (i : Instr), decode p = .ok i →
    WellFormed i = true ∧ (p.isEvent = false → encode i = p)

/-- A few words written out from the spec's formats: event codes (R96), control messages (R92, R93), record heads
(R98), the lengths of a datagram (R100). -/
def Obligations.SpecWordsDecodeToTheirOperations : Prop :=
  decode (.evt 0b000 0 []) = .ok .reset ∧ decode (.evt 0b001 2 []) = .ok (.start 2) ∧
  decode (.evt 0b011 0 []) = .ok .timeout ∧ decode (.evt 0b100 0 []) = .ok .cancel ∧
  decode (.evt 0b010 0 [0xA5, 0x03, 0x00]) = .ok (.dgram [0xA5, 0x03, 0x00]) ∧
  decode (.ctl [0x00, 0x03]) = .ok (.ctlStart 3) ∧ decode (.ctl [0x01]) = .ok .ctlStop ∧
  decode (.record 0b00000000000000001#17 [0x7F]) = .ok (.recPayload [0x7F]) ∧
  decode (.record 0b10000000000000101#17 []) = .ok (.recGap 5) ∧
  decode (.dg [0x07, 0x01]) = .ok (.dgramShort [0x07, 0x01]) ∧
  decode (.dg [0xFF, 0x34, 0x12]) = .ok (.dgramValid [0xFF, 0x34, 0x12])

/-- F-VERDICT is exact: 17 bits stand for a verdict exactly when they are its encoding and the block can produce it
(R97, R108). -/
def Obligations.VerdictWordsAreExact : Prop :=
  ∀ (w : BitVec 17) (v : Verdict), decodeVerdict w = some v ↔ encodeVerdict v = w ∧ verdictOk v = true

/-- The fields of a datagram are where F-DG puts them, the counter little-endian (R65, R91, R99). -/
def Obligations.DatagramFieldsRoundTrip : Prop :=
  (∀ (t : Byte) (c : Counter) (p : List Byte), parse (encodeDatagram t c p) = (t, c, p)) ∧
  (∀ d : List Byte, 3 ≤ d.length → encodeDatagram (parse d).1 (parse d).2.1 (parse d).2.2 = d) ∧
  (∀ d : List Byte, (receivedOf d).toNat = (dgRead d 1).toNat + 256 * (dgRead d 2).toNat)

/-! The step. -/

/-- When the oldest held packet decodes to an operation, no RESET is pending and the synthesizer is idle, the step is that
operation, run with the packet taken from the queue (R10, R171). With FAULT = 1 the packet is taken whatever GS_STATE
holds: DEDUCED from R32, R190 and U16 (log entry 8). The environment's schedule (log entry 5), and that a packet of an
internal format may stand in the queue (log entry 9), are the model's choices. -/
def Obligations.StepRunsTheDecodedPacket : Prop :=
  ∀ (s : State) (p : Packet) (rest : List Packet) (i : Instr),
    s.arrive.held = p :: rest → s.arrive.resetPending = false → (s.fault = true ∨ s.gsState = .idle) →
    decode p = .ok i → step s = exec i { s.arrive with held := rest }

/-- RESET is accepted in every state, before anything pending, and leaves the values of R38: every held event is
discarded, nothing is emitted, PBUF has a free value (R240, R222; log entry 2). What came behind the RESET arrives after it;
the environment's arrivals and the parameters are the model's own fields (log entries 5 and 7). That a held event with
a reserved code is discarded too, and gets no BadState, is the model's choice (log entries 14 and 15). -/
def Obligations.ResetLeavesTheResetValues : Prop :=
  (∀ s : State, exec .reset s = .next { s with
    expected := 0, abuf := [], wptr := 0, session := .idle, rate := 0, gsState := .idle, zrem := 0,
    pbuf := Config.freePbuf s.freeCtr, plen := 0, dbuf := [], samples := [], ctlOut := [], fault := false, held := [],
    ret := .result (.ok none), freeCtr := s.freeCtr + 1 }) ∧
  (∀ (s : State) (before after : List Packet) (rc : Byte) (d : List Byte),
    s.arrive.held = before ++ .evt 0 rc d :: after → (∀ p ∈ before, p.isReset = false) →
    ∃ u : State, u = { s.arrive with held := before, input := u.input } ∧
      u.input.flatten = after ++ s.arrive.input.flatten ∧ step s = exec .reset u)

/-- The state after reset has the values of R38. -/
def Obligations.ResetStateHasTheTableValues : Prop :=
  State.reset.expected = 0 ∧ State.reset.abufBytes = [] ∧ State.reset.wptr = 0 ∧ State.reset.session = .idle ∧
  State.reset.rate = 0 ∧ State.reset.gsState = .idle ∧ State.reset.zrem = 0 ∧ State.reset.plen = 0 ∧
  State.reset.dbuf.length = 0 ∧ State.reset.samples = [] ∧ State.reset.ctlOut = [] ∧ State.reset.fault = false ∧
  State.reset.held = [] ∧ rateRom 0 = 200000 ∧ rateRom 1 = 500000 ∧ rateRom 2 = 1000000 ∧ rateRom 3 = 2000000

/-- While the synthesizer is busy and no RESET is pending the step is its micro-step; what has arrived stays held, in
arrival order (R166, R171). That an event with a reserved code waits too is the model's choice (log entry 15). -/
def Obligations.BusySynthesizerStepsAndHoldsEvents : Prop :=
  ∀ s : State, s.arrive.resetPending = false → s.fault = false →
    (s.gsState = .zfill → s.zrem ≠ 0 →
      ∃ t, step s = .next t ∧ exec .gsZfill s.arrive = .next t ∧ t.held = s.held ++ s.input.headD [] ∧
        t.input = s.input.tail) ∧
    (s.gsState = .payload →
      ∃ t, step s = .next t ∧ exec .gsPayload s.arrive = .next t ∧ t.held = s.held ++ s.input.headD [] ∧
        t.input = s.input.tail)

/-- An event other than RESET that reaches a busy block waits behind those held before it, and nothing else changes
(R171). -/
def Obligations.EventsAreHeldWhileBusy : Prop :=
  ∀ (s : State) (rc : Byte) (d : List Byte), s.gsState ≠ .idle → s.fault = false →
    exec (.start rc) s = .next { s with held := s.held ++ [.evt 1 rc []] } ∧
    exec (.dgram d) s = .next { s with held := s.held ++ [.evt 2 0 d] } ∧
    exec .timeout s = .next { s with held := s.held ++ [.evt 3 0 []] } ∧
    exec .cancel s = .next { s with held := s.held ++ [.evt 4 0 []] }

/-- Between events the block keeps its state (R232). -/
def Obligations.WaitingBlockKeepsItsState : Prop :=
  ∀ s : State, s.held = [] → s.input.headD [] = [] → s.gsState = .idle → s.fault = false →
    step s = .next { s with input := s.input.tail }

/-- An event with one of the reserved codes 5, 6 and 7 is refused with BadState and changes nothing (R107).
That its turn comes in GS_IDLE and not during a fill is the model's choice (log entry 15); that with FAULT = 1 it comes
whatever GS_STATE holds is DEDUCED from R32, R218 and U16 (log entry 8). -/
def Obligations.ReservedEventCodesGetBadState : Prop :=
  ∀ (s : State) (code : BitVec 3) (rc : Byte) (d : List Byte) (rest : List Packet),
    5 ≤ code.toNat → s.arrive.held = .evt code rc d :: rest → s.arrive.resetPending = false →
    (s.fault = true ∨ s.gsState = .idle) →
    step s = .next { s with held := rest, input := s.input.tail, ret := .result .badState }

/-! The sample decoder. -/

/-- DECG returns the two samples of the spec's formulas, computed on natural numbers, and changes no element
(R120). -/
def Obligations.DecgReturnsTheFormulas : Prop :=
  ∀ (b0 b1 b2 b3 : Byte) (s : State), ∃ s1 s2 : Sample,
    exec (.decg b0 b1 b2 b3) s = .next { s with ret := .pair s1 s2 } ∧
    s1.toNat = (b2.toNat <<< 4) ||| ((b1.toNat &&& 0xF0) >>> 4) ∧
    s2.toNat = ((b1.toNat &&& 0x0F) <<< 8) ||| b0.toNat

/-- DECG ignores `b3` and keeps the other 24 bits exactly: it has an inverse, and its result is (0, 0) exactly for
three zero bytes (R122). -/
def Obligations.DecgKeepsTheOtherBits : Prop :=
  (∀ b0 b1 b2 x y : Byte, decodeGroup b0 b1 b2 x = decodeGroup b0 b1 b2 y) ∧
  (∀ (b0 b1 b2 b3 : Byte) (s1 s2 : Sample), decodeGroup b0 b1 b2 b3 = (s1, s2) ↔
    b0.toNat = s2.toNat % 256 ∧ b1.toNat = 16 * (s1.toNat % 16) + s2.toNat / 256 ∧ b2.toNat = s1.toNat / 16) ∧
  (∀ (s1 s2 : Sample) (b3 : Byte), ∃ b0 b1 b2 : Byte, decodeGroup b0 b1 b2 b3 = (s1, s2)) ∧
  (∀ b0 b1 b2 b3 : Byte, decodeGroup b0 b1 b2 b3 = (0, 0) ↔ b0 = 0 ∧ b1 = 0 ∧ b2 = 0)

/-- DECB returns two samples per complete group, group `g` at the indices `2g` and `2g+1`, and drops the rest; it
changes no element (R123, R124). -/
def Obligations.DecbReturnsTheGroupsInOrder : Prop :=
  ∀ (buf : List Byte) (s : State), ∃ out : List Sample,
    exec (.decb buf) s = .next { s with ret := .samples out } ∧ out.length = 2 * (buf.length / 4) ∧
    ∀ (g : Nat) (b0 b1 b2 b3 : Byte), buf[4 * g]? = some b0 → buf[4 * g + 1]? = some b1 →
      buf[4 * g + 2]? = some b2 → buf[4 * g + 3]? = some b3 →
      out[2 * g]? = some (decodeGroup b0 b1 b2 b3).1 ∧ out[2 * g + 1]? = some (decodeGroup b0 b1 b2 b3).2

/-- The laws of DECB, a function of its operand alone: its length, it splits at a multiple of 4, it is a prefix of the
decode of any longer buffer, and `4k` zero bytes are `2k` zero samples (R125). -/
def Obligations.DecbSplitsAtGroups : Prop :=
  (∀ buf : List Byte, (decodeBuffer buf).length = 2 * (buf.length / 4)) ∧
  (∀ p q : List Byte, p.length % 4 = 0 → decodeBuffer (p ++ q) = decodeBuffer p ++ decodeBuffer q) ∧
  (∀ p q : List Byte, decodeBuffer p <+: decodeBuffer (p ++ q)) ∧
  (∀ k : Nat, decodeBuffer (List.replicate (4 * k) 0) = List.replicate (2 * k) 0)

/-- A gap of `n` blocks keeps the alignment of the groups and decodes to `128 * n` zero samples, provided the fill starts
at a multiple of 4 (R70). -/
def Obligations.ZeroFillDecodesToZeroSamples : Prop :=
  ∀ (n : BitVec 16) (s : State), s.fits (256 * n.toNat) = true →
    ∃ t, exec (.recGap n) s = .next t ∧ t.wptr % 4 = s.wptr % 4 ∧
      (s.wptr % 4 = 0 → decodeBuffer t.abufBytes = decodeBuffer s.abufBytes ++ List.replicate (128 * n.toNat) 0)

/-! The sequence tracker. -/

/-- PARSE of a datagram of 3 to 259 bytes returns its type, its counter and its payload and changes no element
(R140). -/
def Obligations.ParseSplitsADatagram : Prop :=
  ∀ (t lo hi : Byte) (p : List Byte) (s : State), p.length ≤ 256 → ∃ c : Counter,
    c.toNat = lo.toNat + 256 * hi.toNat ∧
    exec (.parse (t :: lo :: hi :: p)) s = .next { s with ret := .parsed t c p }

/-- ADV returns its operand plus one modulo 65536 and changes no element (R142). -/
def Obligations.AdvAddsOneModulo : Prop :=
  ∀ (x : Counter) (s : State), ∃ y : BitVec 16, y.toNat = (x.toNat + 1) % 65536 ∧
    exec (.adv x) s = .next { s with ret := .counter y }

/-- GAPLEN returns `(received - expected) mod 65536`, a number that is never negative, and changes no element
(R144). -/
def Obligations.GaplenSubtractsModulo : Prop :=
  ∀ (r e : Counter) (s : State), ∃ y : BitVec 16,
    (y.toNat : Int) = ((r.toNat : Int) - (e.toNat : Int)) % 65536 ∧
    y.toNat = (r.toNat + 65536 - e.toNat) % 65536 ∧ exec (.gaplen r e) s = .next { s with ret := .counter y }

/-- ADV is a bijection with the inverse of R143, wraps at 65535, and comes back after 65536 applications (R143). -/
def Obligations.AdvIsABijection : Prop :=
  Function.Bijective adv ∧ adv 65535 = 0 ∧
  (∀ x : Counter, adv (BitVec.ofNat 16 ((x.toNat + 65535) % 65536)) = x ∧
    (((adv x).toNat + 65535) % 65536 = x.toNat)) ∧
  (∀ x : Counter, adv^[65536] x = x)

/-- The laws of GAPLEN: it is 0 exactly for equal counters, it counts the applications of ADV from `e` up to `r`, the
two directions add up to 65536, and it does not change when both counters advance (R145). -/
def Obligations.GaplenCountsAdvances : Prop :=
  (∀ r e : Counter, gaplen r e = 0 ↔ r = e) ∧
  (∀ r e : Counter, adv^[(gaplen r e).toNat] e = r ∧ ∀ k < (gaplen r e).toNat, adv^[k] e ≠ r) ∧
  (∀ r e : Counter, r ≠ e → (gaplen r e).toNat + (gaplen e r).toNat = 65536) ∧
  (∀ r e : Counter, gaplen (adv r) (adv e) = gaplen r e)

/-- CLASSIFY compares with EXPECTED, returns InOrder or a Gap that is never 0, writes EXPECTED once and nothing
else (R146). -/
def Obligations.ClassifyComparesAndAdvances : Prop :=
  ∀ (r : Counter) (s : State),
    (r = s.expected → exec (.classify r) s = .next { s with expected := adv s.expected, ret := .verdict .inOrder }) ∧
    (r ≠ s.expected → gaplen r s.expected ≠ 0 ∧
      exec (.classify r) s = .next { s with expected := adv r, ret := .verdict (.gap (gaplen r s.expected)) })

/-- Each arm of CLASSIFY runs where its condition selects it (R146, R100). That the arm not selected stops by name is the
model's choice (log entry 12). -/
def Obligations.ClassifyArmsRunWhereSelected : Prop :=
  ∀ (r : Counter) (s : State),
    (r = s.expected →
      exec (.classifyInorder r) s = .next { s with expected := adv s.expected, ret := .verdict .inOrder } ∧
      exec (.classifyGap r) s = .fault (.precondition "CLASSIFY.GAP")) ∧
    (r ≠ s.expected →
      exec (.classifyGap r) s = .next { s with expected := adv r, ret := .verdict (.gap (gaplen r s.expected)) } ∧
      exec (.classifyInorder r) s = .fault (.precondition "CLASSIFY.INORDER"))

/-- One formula for both arms: the verdict is decided by GAPLEN alone and EXPECTED becomes ADV of the counter seen,
whatever it was (R147). -/
def Obligations.ClassifyIsOneFormula : Prop :=
  ∀ (r : Counter) (s : State), ∃ t, exec (.classify r) s = .next t ∧ t.expected = adv r ∧
    t.ret = .verdict (if gaplen r s.expected = 0 then .inOrder else .gap (gaplen r s.expected))

/-- A repeated counter is Gap(65535) and leaves EXPECTED where it was; a datagram `k` places late is Gap(65536 - k)
and moves EXPECTED back; neither is rejected (R148). -/
def Obligations.DuplicatesAndLateCountersAreLargeGaps : Prop :=
  (∀ (c : Counter) (s : State), s.expected = adv c →
    exec (.classify c) s = .next { s with expected := adv c, ret := .verdict (.gap 65535) }) ∧
  (∀ (k : Nat) (s : State), 0 < k → k < 65536 → ∃ (r : Counter) (n : BitVec 16),
    (r.toNat : Int) = ((s.expected.toNat : Int) - k) % 65536 ∧ n.toNat = 65536 - k ∧
    exec (.classify r) s = .next { s with expected := r + 1, ret := .verdict (.gap n) })

/-! The reassembler. -/

/-- REASM appends the zero blocks of the verdict and then the payload, touches no byte below WPTR or beyond what it
appends, and changes nothing but ABUF and WPTR; what does not fit raises BufferOverflow (R160, R161, R217). -/
def Obligations.ReasmAppendsZerosThenPayload : Prop :=
  ∀ (p : List Byte) (v : Verdict) (s : State), p.length ≤ 256 → v ≠ .gap 0 →
    (s.fits (256 * v.count.toNat + p.length) = true →
      ∃ t, exec (.reasm p v) s = .next t ∧ t = { s with abuf := t.abuf, wptr := t.wptr } ∧
        t.wptr = s.wptr + 256 * v.count.toNat + p.length ∧
        t.abufBytes = s.abufBytes ++ List.replicate (256 * v.count.toNat) 0 ++ p ∧
        ∀ a, (a < s.wptr ∨ t.wptr ≤ a) → t.abuf.get a = s.abuf.get a) ∧
    (s.fits (256 * v.count.toNat + p.length) = false →
      ∃ t, exec (.reasm p v) s = .next t ∧ t.fault = true ∧ t.ret = .result .bufferOverflow)

/-- REASM is the effect of the datagram's records in order (R162). -/
def Obligations.ReasmIsItsRecordsInOrder : Prop :=
  ∀ (p : List Byte) (s : State), p.length ≤ 256 →
    (s.fits p.length = true → records p .inOrder = [.payload p] ∧
      ∃ t, exec (.recPayload p) s = .next t ∧ exec (.reasm p .inOrder) s = .next t) ∧
    (∀ n : BitVec 16, n ≠ 0 → s.fits (256 * n.toNat + p.length) = true →
      records p (.gap n) = [.gap n, .payload p] ∧
      ∃ u t, exec (.recGap n) s = .next u ∧ exec (.recPayload p) u = .next t ∧
        exec (.reasm p (.gap n)) s = .next t)

/-- A record appends its bytes and changes nothing but ABUF and WPTR; what does not fit raises BufferOverflow (R163,
R164). -/
def Obligations.RecordsAppendTheirBytes : Prop :=
  (∀ (p : List Byte) (s : State), p.length ≤ 256 → s.fits p.length = true →
    ∃ t, exec (.recPayload p) s = .next t ∧ t = { s with abuf := t.abuf, wptr := t.wptr } ∧
      t.wptr = s.wptr + p.length ∧ t.abufBytes = s.abufBytes ++ p ∧
      ∀ a, (a < s.wptr ∨ t.wptr ≤ a) → t.abuf.get a = s.abuf.get a) ∧
  (∀ (p : List Byte) (s : State), p.length ≤ 256 → s.fits p.length = false →
    ∃ t, exec (.recPayload p) s = .next t ∧ t.fault = true ∧ t.ret = .result .bufferOverflow) ∧
  (∀ (n : BitVec 16) (s : State), s.fits (256 * n.toNat) = false →
    ∃ t, exec (.recGap n) s = .next t ∧ t.fault = true ∧ t.ret = .result .bufferOverflow) ∧
  (∀ (n : BitVec 16) (s : State), s.fits (256 * n.toNat) = true →
    ∃ t, exec (.recGap n) s = .next t ∧ t = { s with abuf := t.abuf, wptr := t.wptr } ∧
      t.wptr = s.wptr + 256 * n.toNat ∧ t.abufBytes = s.abufBytes ++ List.replicate (256 * n.toNat) 0 ∧
      ∀ a, (a < s.wptr ∨ t.wptr ≤ a) → t.abuf.get a = s.abuf.get a)

/-- GS.LOAD stores the payload, its length and the block count, and selects the next state; ABUF and WPTR stay. What
does not fit raises BufferOverflow before any byte is stored (R167). -/
def Obligations.GsLoadStoresTheDatagram : Prop :=
  ∀ (p : List Byte) (v : Verdict) (s : State), p.length ≤ 256 → v ≠ .gap 0 → s.gsState = .idle →
    (s.fits (256 * v.count.toNat + p.length) = true →
      ∃ t, exec (.gsLoad p v) s = .next t ∧
        t = { s with pbuf := t.pbuf, plen := t.plen, zrem := v.count,
                     gsState := if v.count ≠ 0 then .zfill else .payload } ∧
        t.plen.toNat = p.length ∧ t.pbuf.toList = p ++ s.pbuf.toList.drop p.length ∧ t.pbufBytes = p) ∧
    (s.fits (256 * v.count.toNat + p.length) = false →
      ∃ t, exec (.gsLoad p v) s = .next t ∧ t.fault = true ∧ t.ret = .result .bufferOverflow)

/-- GS.ZFILL appends one block of 256 zero bytes, decrements ZREM and then tests it (R168). -/
def Obligations.GsZfillAppendsOneBlock : Prop :=
  ∀ s : State, s.gsState = .zfill → s.zrem ≠ 0 →
    ∃ t, exec .gsZfill s = .next t ∧
      t = { s with abuf := t.abuf, wptr := s.wptr + 256, zrem := t.zrem,
                   gsState := if t.zrem = 0 then .payload else .zfill } ∧
      t.zrem.toNat = s.zrem.toNat - 1 ∧ t.abufBytes = s.abufBytes ++ List.replicate 256 0 ∧
      ∀ a, (a < s.wptr ∨ t.wptr ≤ a) → t.abuf.get a = s.abuf.get a

/-- GS.PAYLOAD appends the valid bytes of PBUF and returns to GS_IDLE (R169). That it leaves the result field as it was,
the OK of its datagram returned already, is the model's choice (log entries 6 and 16). -/
def Obligations.GsPayloadAppendsPbuf : Prop :=
  ∀ s : State, s.gsState = .payload → s.plen.toNat ≤ 256 →
    ∃ t, exec .gsPayload s = .next t ∧
      t = { s with abuf := t.abuf, wptr := s.wptr + s.plen.toNat, gsState := .idle } ∧
      t.abufBytes = s.abufBytes ++ s.pbuf.toList.take s.plen.toNat ∧
      ∀ a, (a < s.wptr ∨ t.wptr ≤ a) → t.abuf.get a = s.abuf.get a

/-- The model's own stops (log entry 12): an internal operation outside its precondition, or with an operand its format
does not admit. The arms of DGRAM and CLASSIFY have theirs in their own statements. -/
def Obligations.InternalOperationsStopOutsideTheirPreconditions : Prop :=
  ∀ s : State,
    (s.gsState ≠ .zfill ∨ s.zrem = 0 → exec .gsZfill s = .fault (.precondition "GS.ZFILL")) ∧
    (s.gsState ≠ .payload → exec .gsPayload s = .fault (.precondition "GS.PAYLOAD")) ∧
    (∀ (p : List Byte) (v : Verdict), p.length ≤ 256 → v ≠ .gap 0 → s.gsState ≠ .idle →
      exec (.gsLoad p v) s = .fault (.precondition "GS.LOAD")) ∧
    (∀ (p : List Byte) (v : Verdict), (256 < p.length ∨ v = .gap 0) →
      exec (.gsLoad p v) s = .fault (.malformed "GS.LOAD") ∧ exec (.reasm p v) s = .fault (.malformed "REASM")) ∧
    (∀ p : List Byte, 256 < p.length → exec (.recPayload p) s = .fault (.malformed "REC.PAYLOAD")) ∧
    (∀ d : List Byte, (d.length < 3 ∨ 259 < d.length) → exec (.parse d) s = .fault (.precondition "PARSE")) ∧
    ((s.gsState ≠ .idle ∨ s.fault = true ∨ s.session = .idle ∨ s.session = .stopped) →
      exec .stopseq s = .fault (.precondition "STOPSEQ"))

/-- The micro-steps implement REASM: after GS.LOAD, `n` GS.ZFILL steps and one GS.PAYLOAD step reach GS_IDLE with the
bytes REASM appends and nothing else changed that any rule reads; between them WPTR is where R170 says. No RESET is
pending or arrives meanwhile; other events may, and wait (R171). That one with a reserved code waits too and takes none
of the steps counted is the model's choice (log entry 15). -/
def Obligations.MicroStepsImplementReasm : Prop :=
  ∀ (p : List Byte) (v : Verdict) (s : State), p.length ≤ 256 → v ≠ .gap 0 → s.gsState = .idle → s.fault = false →
    s.NoReset → s.fits (256 * v.count.toNat + p.length) = true →
    ∃ l r u, exec (.gsLoad p v) s = .next l ∧ exec (.reasm p v) s = .next r ∧
      stepN (v.count.toNat + 1) l = .next u ∧
      u = { r with abuf := u.abuf, zrem := u.zrem, pbuf := u.pbuf, plen := u.plen, held := u.held, input := u.input } ∧
      (∀ a, u.abuf.get a = r.abuf.get a) ∧
      (∀ j ≤ v.count.toNat, ∃ w, stepN j l = .next w ∧ w.gsState ≠ .idle ∧ w.zrem.toNat = v.count.toNat - j ∧
        w.wptr = s.wptr + 256 * (v.count.toNat - w.zrem.toNat))

/-- A busy synthesizer is idle again after at most 65536 steps, and every event that was held or arrived meanwhile is
still held, in arrival order (R170, R171, R257). That this includes events with a reserved code, which wait and take no
step during the fill, is the model's choice (log entry 15). -/
def Obligations.BusySynthesizerBecomesIdle : Prop :=
  ∀ s : State, s.fault = false → (s.gsState = .zfill → s.zrem ≠ 0) → s.NoReset →
    ∃ k ≤ 65536, ∃ u, stepN k s = .next u ∧ u.gsState = .idle ∧
      u.held ++ u.input.flatten = s.held ++ s.input.flatten

/-! The session. -/

/-- START with a legal code in Idle opens the session: the rate, EXPECTED and ABUF are set and `[0x00, rc]` is emitted
(R181, R191). -/
def Obligations.StartOpensASession : Prop :=
  ∀ (rc : Byte) (s : State), rc.toNat ≤ 3 → s.session = .idle → s.fault = false → s.gsState = .idle →
    exec (.start rc) s = .next { s with
      rate := rc.setWidth 2, expected := 0, abuf := [], wptr := 0, ctlOut := s.ctlOut ++ [[0x00, rc]],
      session := .started, ret := .result (.ok none) }

/-- A START that is not accepted changes nothing but the result: the code is tested first, in every state, then FAULT
and the state of the session (R105, R190, R211, R221). That FAULT = 1 refuses it whatever GS_STATE holds is DEDUCED
from R32, R190 and U16 (log entry 8). -/
def Obligations.RejectedStartChangesNothing : Prop :=
  ∀ (rc : Byte) (s : State), (s.gsState = .idle ∨ s.fault = true) →
    (3 < rc.toNat → exec (.start rc) s = .next { s with ret := .result (.invalidConfiguration rc) }) ∧
    (rc.toNat ≤ 3 → (s.fault = true ∨ s.session ≠ .idle) →
      exec (.start rc) s = .next { s with ret := .result .badState })

/-- A short or oversize datagram is rejected and skipped: the result says so, the session is Receiving, and the tracker,
the buffer and the synthesizer are untouched (R183, R184, R196). What DBUF holds afterwards is a free value
(log entry 3). -/
def Obligations.ShortAndOversizeDatagramsAreSkipped : Prop :=
  ∀ (d : List Byte) (s : State), s.gsState = .idle → s.fault = false →
    (s.session = .started ∨ s.session = .receiving) →
    (d.length < 3 → ∃ t, exec (.dgram d) s = .next t ∧ t = { s with
      session := .receiving, ret := .result (.shortDatagram d.length), dbuf := t.dbuf, freeCtr := t.freeCtr }) ∧
    (259 < d.length → ∃ t, exec (.dgram d) s = .next t ∧ t = { s with
      session := .receiving, ret := .result (.oversizeDatagram d.length), dbuf := t.dbuf, freeCtr := t.freeCtr })

/-- A valid datagram is classified and loaded: EXPECTED is the successor of its counter, the synthesizer holds its payload
and the blocks it owes, the result carries the verdict, and ABUF and WPTR are as before (R185, R147, R167). That
the OK is returned in this step and not after the fill is the model's choice (log entry 16). What DBUF holds afterwards
is a free value (log entry 3). -/
def Obligations.ValidDatagramIsClassifiedAndLoaded : Prop :=
  ∀ (y : Byte) (c : Counter) (p : List Byte) (s : State), p.length ≤ 256 → s.gsState = .idle → s.fault = false →
    (s.session = .started ∨ s.session = .receiving) → s.fits (256 * (gaplen c s.expected).toNat + p.length) = true →
    ∃ t, exec (.dgram (encodeDatagram y c p)) s = .next t ∧
      t = { s with
        session := .receiving, expected := adv c, zrem := gaplen c s.expected, pbuf := t.pbuf, plen := t.plen,
        gsState := if c = s.expected then .payload else .zfill,
        ret := .result (.ok (some (if c = s.expected then .inOrder else .gap (gaplen c s.expected)))),
        dbuf := t.dbuf, freeCtr := t.freeCtr } ∧
      t.plen.toNat = p.length ∧ t.pbufBytes = p

/-- DGRAM, TIMEOUT and CANCEL outside a session return BadState and change nothing else: a datagram is dropped, no second
stop message goes out, nothing is decoded again (R182, R186, R187, R190, R218). That FAULT = 1 refuses them whatever
GS_STATE holds is DEDUCED from R32, R190 and U16 (log entry 8). -/
def Obligations.EventsOutsideASessionAreRefused : Prop :=
  ∀ (i : Instr) (s : State), ((∃ d, i = .dgram d) ∨ i = .timeout ∨ i = .cancel) →
    (s.gsState = .idle ∨ s.fault = true) → (s.fault = true ∨ s.session = .idle ∨ s.session = .stopped) →
    exec i s = .next { s with ret := .result .badState }

/-- The arms of DGRAM run where the length selects them (R183 to R185, R100): for every length one arm runs and the other
two stop by name, the model's choice (log entry 12). DGRAM.VALID stops by name too while the synthesizer is busy, outside
the precondition of its GS.LOAD (R167, log entry 12); what does not fit is a BufferOverflow (R217), of which the data path
is not spoken. That DGRAM.VALID returns its OK before the fill is the model's choice (log entry 16). -/
def Obligations.DatagramArmsRunWhereSelected : Prop :=
  (∀ (d : List Byte) (s : State), d.length < 3 →
    exec (.dgramShort d) s = .next { s with ret := .result (.shortDatagram d.length) } ∧
    exec (.dgramOversize d) s = .fault (.precondition "DGRAM.OVERSIZE") ∧
    exec (.dgramValid d) s = .fault (.precondition "DGRAM.VALID")) ∧
  (∀ (d : List Byte) (s : State), 259 < d.length →
    exec (.dgramOversize d) s = .next { s with ret := .result (.oversizeDatagram d.length) } ∧
    exec (.dgramShort d) s = .fault (.precondition "DGRAM.SHORT") ∧
    exec (.dgramValid d) s = .fault (.precondition "DGRAM.VALID")) ∧
  (∀ (y : Byte) (c : Counter) (p : List Byte) (s : State), p.length ≤ 256 → s.gsState = .idle →
    s.fits (256 * (gaplen c s.expected).toNat + p.length) = true →
    ∃ t, exec (.dgramValid (encodeDatagram y c p)) s = .next t ∧
      t = { s with
        expected := adv c, zrem := gaplen c s.expected, pbuf := t.pbuf, plen := t.plen,
        gsState := if c = s.expected then .payload else .zfill,
        ret := .result (.ok (some (if c = s.expected then .inOrder else .gap (gaplen c s.expected)))) } ∧
      t.plen.toNat = p.length ∧ t.pbufBytes = p) ∧
  (∀ (y : Byte) (c : Counter) (p : List Byte) (s : State), p.length ≤ 256 → s.gsState = .idle →
    s.fits (256 * (gaplen c s.expected).toNat + p.length) = false →
    ∃ t, exec (.dgramValid (encodeDatagram y c p)) s = .next t ∧ t.fault = true ∧ t.ret = .result .bufferOverflow ∧
      t.session = s.session ∧ t.rate = s.rate ∧ t.ctlOut = s.ctlOut ∧ t.held = s.held) ∧
  (∀ (d : List Byte) (s : State), 3 ≤ d.length → d.length ≤ 259 →
    exec (.dgramShort d) s = .fault (.precondition "DGRAM.SHORT") ∧
    exec (.dgramOversize d) s = .fault (.precondition "DGRAM.OVERSIZE") ∧
    (s.gsState ≠ .idle → exec (.dgramValid d) s = .fault (.precondition "DGRAM.VALID")))

/-- TIMEOUT, CANCEL and the stop sequence they run: `[0x01]` is emitted, SAMPLES is the decode of the whole of ABUF,
the session is Stopped (R186 to R188, R192). -/
def Obligations.StopEventsRunTheStopSequence : Prop :=
  ∀ (s : State) (i : Instr), i = .timeout ∨ i = .cancel ∨ i = .stopseq → s.gsState = .idle → s.fault = false →
    (s.session = .started ∨ s.session = .receiving) →
    exec i s = .next { s with
      ctlOut := s.ctlOut ++ [[0x01]], samples := decodeBuffer s.abufBytes, session := .stopped,
      ret := .result (.ok none) }

/-- The control messages are emitted as their formats say and nothing else changes (R92, R93, R191, R192). -/
def Obligations.ControlMessagesAreEmitted : Prop :=
  ∀ s : State,
    (∀ rc : RateCode, exec (.ctlStart rc) s = .next { s with ctlOut := s.ctlOut ++ [[0x00, rc.setWidth 8]] }) ∧
    exec .ctlStop s = .next { s with ctlOut := s.ctlOut ++ [[0x01]] }

/-- RATEHZ reads the static table and changes no element (R189). -/
def Obligations.RatehzReadsTheTable : Prop :=
  ∀ s : State,
    exec (.ratehz 0) s = .next { s with ret := .hertz 200000 } ∧
    exec (.ratehz 1) s = .next { s with ret := .hertz 500000 } ∧
    exec (.ratehz 2) s = .next { s with ret := .hertz 1000000 } ∧
    exec (.ratehz 3) s = .next { s with ret := .hertz 2000000 }

/-- TSTAMP is the exact rational `i / RATEHZ(RATE)`, which is a whole number of nanoseconds, and changes no element
(R193, with the default of `TIME_REPR`). -/
def Obligations.TstampIsTheExactQuotient : Prop :=
  ∀ (i : Nat) (s : State), ∃ q : Rat, exec (.tstamp i) s = .next { s with ret := .seconds q } ∧
    q = (i : Rat) / (rateRom s.rate : Rat) ∧ q = ((i * periodNs s.rate : Nat) : Rat) / 1000000000

/-- A datagram that does not fit sets the sticky FAULT and returns BufferOverflow; SESSION is Receiving, and RATE, CTL_OUT
and the held events are as before. The data path is not spoken of: it has free values (R217, U16). -/
def Obligations.OverflowSetsFault : Prop :=
  ∀ (y : Byte) (c : Counter) (p : List Byte) (s : State), p.length ≤ 256 → s.gsState = .idle → s.fault = false →
    (s.session = .started ∨ s.session = .receiving) → s.fits (256 * (gaplen c s.expected).toNat + p.length) = false →
    ∃ t, exec (.dgram (encodeDatagram y c p)) s = .next t ∧ t.fault = true ∧ t.ret = .result .bufferOverflow ∧
      t.session = .receiving ∧ t.rate = s.rate ∧ t.ctlOut = s.ctlOut ∧ t.held = s.held

/-- The capacity test: with the default parameters everything fits; with a finite BUF_CAP or PTR_W, what keeps WPTR
within both (R7, R160, R217). -/
def Obligations.CapacityIsBufCapAndPtrW : Prop :=
  ∀ (s : State) (n : Nat),
    (s.params = ⟨none, none⟩ → s.fits n = true) ∧
    (∀ cap, s.params = ⟨some cap, none⟩ → (s.fits n = true ↔ s.wptr + n ≤ cap)) ∧
    (∀ w, s.params = ⟨none, some w⟩ → (s.fits n = true ↔ s.wptr + n < 2 ^ w)) ∧
    (∀ cap w, s.params = ⟨some cap, some w⟩ → (s.fits n = true ↔ s.wptr + n ≤ cap ∧ s.wptr + n < 2 ^ w))

/-- While FAULT is 1 every event but RESET is refused and changes nothing but the result (R32, R190). That none is held
in the states where GS_STATE is not GS_IDLE is DEDUCED from R32, R190 and U16 (log entry 8). -/
def Obligations.FaultRefusesEveryEventButReset : Prop :=
  ∀ (s : State) (rc : Byte) (d : List Byte), s.fault = true →
    (3 < rc.toNat → exec (.start rc) s = .next { s with ret := .result (.invalidConfiguration rc) }) ∧
    (rc.toNat ≤ 3 → exec (.start rc) s = .next { s with ret := .result .badState }) ∧
    exec (.dgram d) s = .next { s with ret := .result .badState } ∧
    exec .timeout s = .next { s with ret := .result .badState } ∧
    exec .cancel s = .next { s with ret := .result .badState } ∧
    ∃ t, exec .reset s = .next t ∧ t.fault = false

/-! Rules of the whole machine. -/

/-- FAULT is set only by BufferOverflow, which needs a finite capacity, and cleared only by RESET (R32). -/
def Obligations.FaultIsSetByOverflowAndClearedByReset : Prop :=
  ∀ (i : Instr) (s t : State), exec i s = .next t →
    (s.fault = false → t.fault = true → t.ret = .result .bufferOverflow ∧ s.params ≠ ⟨none, none⟩) ∧
    (s.fault = true → t.fault = false → i = .reset)

/-- SESSION moves only along the edges of R190: RESET to Idle, an accepted START from Idle to Started, the first DGRAM from
Started to Receiving, a stop from Started or Receiving to Stopped; so only RESET leaves Stopped (R190, R243). -/
def Obligations.SessionMovesAlongTheTable : Prop :=
  ∀ (i : Instr) (s t : State), exec i s = .next t →
    t.session = s.session ∨
    (i = .reset ∧ t.session = .idle) ∨
    (∃ rc : Byte, i = .start rc ∧ rc.toNat ≤ 3 ∧ s.session = .idle ∧ t.session = .started) ∨
    (∃ d : List Byte, i = .dgram d ∧ s.session = .started ∧ t.session = .receiving) ∨
    ((i = .timeout ∨ i = .cancel ∨ i = .stopseq) ∧ (s.session = .started ∨ s.session = .receiving) ∧
      t.session = .stopped)

/-- EXPECTED has the writers of R22: CLASSIFY (by itself, by an arm, or inside a valid datagram that is accepted) writes ADV
of the counter received, an accepted START and RESET write 0, and nothing else writes it while FAULT is 0. -/
def Obligations.ExpectedHasThreeWriters : Prop :=
  ∀ (i : Instr) (s t : State), exec i s = .next t → t.fault = false →
    t.expected = s.expected ∨
    (i = .reset ∧ t.expected = 0) ∨
    (∃ rc : Byte, i = .start rc ∧ rc.toNat ≤ 3 ∧ s.session = .idle ∧ s.fault = false ∧ s.gsState = .idle ∧
      t.session = .started ∧ t.expected = 0) ∨
    (∃ r : Counter, (i = .classify r ∨ i = .classifyInorder r ∨ i = .classifyGap r) ∧ t.expected = adv r) ∨
    (∃ d : List Byte,
      ((i = .dgram d ∧ s.fault = false ∧ (s.session = .started ∨ s.session = .receiving)) ∨ i = .dgramValid d) ∧
      s.gsState = .idle ∧ 3 ≤ d.length ∧ d.length ≤ 259 ∧ t.expected = adv (receivedOf d))

/-- RATE is written only by an accepted START, with the code it emits, and by RESET (R27, R243). -/
def Obligations.RateHasTwoWriters : Prop :=
  ∀ (i : Instr) (s t : State), exec i s = .next t →
    t.rate = s.rate ∨ (i = .reset ∧ t.rate = 0) ∨
    (∃ rc : Byte, i = .start rc ∧ rc.toNat ≤ 3 ∧ t.rate.toNat = rc.toNat ∧ t.ctlOut = s.ctlOut ++ [[0x00, rc]])

/-- ABUF is append-only: an operation other than RESET and START changes no byte below WPTR and never lowers WPTR, and the
stored cells keep their canonical form under every operation (R23). The claim about the bytes is for FAULT = 0. -/
def Obligations.AbufIsAppendOnly : Prop :=
  ∀ (i : Instr) (s t : State), exec i s = .next t →
    (s.abuf.wf = true → t.abuf.wf = true) ∧
    (t.fault = false → i ≠ .reset → (∀ rc, i ≠ .start rc) →
      s.wptr ≤ t.wptr ∧ s.abufBytes <+: t.abufBytes)

/-- The packet type byte has no effect: two datagrams that differ in it alone leave the same state (R102). The equality
takes in DBUF after its event (R29) and, after a BufferOverflow, the data path (R217), which the spec leaves open: that
these agree too is the model's choice, because their free values depend on the index `freeCtr` alone and not on the
datagram (log entries 3 and 8). That with FAULT = 1 both are refused whatever GS_STATE holds is DEDUCED (log entry 8). -/
def Obligations.PacketTypeByteHasNoEffect : Prop :=
  ∀ (x y : Byte) (rest : List Byte) (s : State), (s.gsState = .idle ∨ s.fault = true) →
    ∃ t, exec (.dgram (x :: rest)) s = .next t ∧ exec (.dgram (y :: rest)) s = .next t

/-- The status view shows the state in the fields of R37, SESSION and GS_STATE in the encodings of R26 and R25, and every
entry reads 0 after RESET. -/
def Obligations.StatusViewShowsTheState : Prop :=
  (∀ s : State,
    (s.session = .idle → s.statusView 0 = some 0) ∧ (s.session = .started → s.statusView 0 = some 1) ∧
    (s.session = .receiving → s.statusView 0 = some 2) ∧ (s.session = .stopped → s.statusView 0 = some 3) ∧
    s.statusView 1 = some s.rate.toNat ∧ s.statusView 2 = some s.expected.toNat ∧ s.statusView 3 = some s.wptr ∧
    (∃ n, s.statusView 4 = some n ∧ n / 4 = s.zrem.toNat ∧ (s.gsState = .idle → n % 4 = 0) ∧
      (s.gsState = .zfill → n % 4 = 1) ∧ (s.gsState = .payload → n % 4 = 2)) ∧
    (s.fault = false → s.statusView 5 = some 0) ∧ (s.fault = true → s.statusView 5 = some 1) ∧
    s.statusView 6 = some s.samples.length) ∧
  (∀ s : State, ∃ t, exec .reset s = .next t ∧ ∀ n ≤ 6, t.statusView n = some 0)

/-- Once a stop is accepted the artifact has `2 * floor(WPTR / 4)` elements, element `i` being the exact time of index
`i` and sample `i` of the decode of ABUF (R194, R30). -/
def Obligations.ArtifactPairsTimesWithSamples : Prop :=
  ∀ (s : State) (i : Instr), i = .timeout ∨ i = .cancel → s.gsState = .idle → s.fault = false →
    (s.session = .started ∨ s.session = .receiving) →
    ∃ t, exec i s = .next t ∧ t.artifact.length = 2 * (s.wptr / 4) ∧ t.samples.length = 2 * (s.wptr / 4) ∧
      ∀ (k : Nat) (x : Sample), (decodeBuffer s.abufBytes)[k]? = some x →
        t.artifact[k]? = some ((k : Rat) / (rateRom s.rate : Rat), x)

/-- The state after reset meets the invariant, with any parameters and any environment that sends input events only. -/
def Obligations.ResetStateMeetsTheInvariant : Prop :=
  ∀ (params : Config.Params) (input : List (List Packet)), (∀ b ∈ input, ∀ p ∈ b, p.isEvent = true) →
    ({ State.reset with params := params, input := input } : State).Inv

/-- Every step keeps the invariant of Safety.lean: the canonical form of ABUF, the bounds of DBUF and PLEN, the counts and
states of the synthesizer (R166), the capacity tested in advance (R167), SAMPLES (R30), what CTL_OUT can hold
(R195). -/
def Obligations.StepKeepsTheInvariant : Prop :=
  ∀ s t : State, s.Inv → step s = .next t → t.Inv

/-- A block that meets the invariant never stops: every step answers a next state, whatever events arrive (R171, R190,
R218). -/
def Obligations.InvariantStatesNeverStop : Prop :=
  ∀ s : State, s.Inv → ∃ t, step s = .next t

/-- A whole session is the function of its trace that R197 gives: START, then any datagrams, then TIMEOUT or CANCEL, with
the default unbounded buffer and all of them pending in this order, end in Stopped with exactly these values. -/
def Obligations.SessionIsAFunctionOfItsTrace : Prop :=
  ∀ (rc : Byte) (ds : List (List Byte)) (stop : Instr) (s : State),
    rc.toNat ≤ 3 → (stop = .timeout ∨ stop = .cancel) →
    s.session = .idle → s.gsState = .idle → s.fault = false → s.ctlOut = [] → s.params = ⟨none, none⟩ →
    s.input = [] → s.held = encode (.start rc) :: (ds.map fun d => encode (.dgram d)) ++ [encode stop] →
    ∃ k u, stepN k s = .next u ∧ u.SessionOver ∧ u.held = [] ∧
      u.abufBytes = assembledFrom 0 ds ∧ u.samples = decodeBuffer (assembledFrom 0 ds) ∧
      u.expected = expectedAfter 0 ds ∧ u.ctlOut = [[0x00, rc], [0x01]] ∧ u.rate.toNat = rc.toNat
end

