-- ==== Sys2Proof/Laws/Encoding.lean ====
section
/-! SUPPORT. The 17-bit words of F-VERDICT and F-REC taken apart and put together. -/

namespace Sys2Proof

@[simp] theorem toNat_tagged (t : Bool) (v : BitVec 16) : (tagged t v).toNat = t.toNat * 65536 + v.toNat := by
  have hv := v.isLt
  have ht := t.toNat_le
  rw [tagged, BitVec.toNat_ofNat, Nat.mod_eq_of_lt (by omega)]

@[simp] theorem tagBit_tagged (t : Bool) (v : BitVec 16) : tagBit (tagged t v) = t := by
  have hv := v.isLt
  cases t <;> (simp [tagBit]; try omega)

@[simp] theorem tagValue_tagged (t : Bool) (v : BitVec 16) : tagValue (tagged t v) = v := by
  refine BitVec.eq_of_toNat_eq ?_
  have hv := v.isLt
  rw [tagValue, toNat_tagged, BitVec.toNat_ofNat]
  cases t <;> simp <;> omega

@[simp] theorem tagged_tagBit_tagValue (w : BitVec 17) : tagged (tagBit w) (tagValue w) = w := by
  refine BitVec.eq_of_toNat_eq ?_
  have hw := w.isLt
  rw [toNat_tagged, tagValue, BitVec.toNat_ofNat]
  by_cases h : 65536 ≤ w.toNat
  · simp only [tagBit, h, decide_true, Bool.toNat_true]; omega
  · simp only [tagBit, h, decide_false, Bool.toNat_false]; omega

end Sys2Proof
end

