-- ==== Sys2Proof/Laws/Memory.lean ====
section
/-! SUPPORT. What the memory operations do to every byte, and that each keeps the canonical form. -/

namespace Sys2Proof.Machine

/-! Reading after one operation. -/

@[simp] theorem Memory.get_nil (a : Nat) : Memory.get [] a = 0 := rfl

theorem Memory.get_cons (k : Nat) (v : Byte) (m : Memory) (a : Nat) :
    Memory.get ((k, v) :: m) a = if k = a then v else Memory.get m a := rfl

/-- Dropping cells by their offset leaves the kept offsets' bytes and makes the others read 0. -/
theorem Memory.get_filter (m : Memory) (keep : Nat → Bool) (a : Nat) :
    Memory.get (m.filter (fun c => keep c.1)) a = if keep a then m.get a else 0 := by
  induction m with
  | nil => simp
  | cons c m ih =>
    obtain ⟨k, v⟩ := c
    by_cases hk : keep k
    · rw [List.filter_cons_of_pos (by exact hk), Memory.get_cons, ih, Memory.get_cons]
      by_cases ha : k = a
      · subst ha; simp [hk]
      · simp [ha]
    · rw [List.filter_cons_of_neg (by exact hk), ih, Memory.get_cons]
      by_cases ha : k = a
      · subst ha; simp [hk]
      · simp [ha]

theorem Memory.get_insert (m : Memory) (a : Nat) (b : Byte) (x : Nat) (h : ∀ c ∈ m, c.1 ≠ a) :
    Memory.get (Memory.insert a b m) x = if x = a then b else m.get x := by
  induction m with
  | nil => simp [Memory.insert, Memory.get_cons, eq_comm]
  | cons c m ih =>
    obtain ⟨k, v⟩ := c
    have hk : k ≠ a := h (k, v) (by simp)
    have ih := ih fun c hc => h c (by simp [hc])
    unfold Memory.insert
    split
    · simp [Memory.get_cons, eq_comm]
    · rw [Memory.get_cons, ih, Memory.get_cons]
      by_cases hx : x = a
      · subst hx; simp [hk]
      · simp [hx]

/-- A byte read after one byte was written. -/
theorem Memory.get_set (m : Memory) (a : Nat) (b : Byte) (x : Nat) :
    Memory.get (m.set a b) x = if x = a then b else m.get x := by
  unfold Memory.set
  have hf := Memory.get_filter m (fun k => k != a) x
  split
  · next hb =>
    rw [hf]
    by_cases hx : x = a <;> simp [hx, hb, unlistedByte]
  · rw [Memory.get_insert _ _ _ _ (by simp), hf]
    by_cases hx : x = a <;> simp [hx]

/-- A byte read after bytes were written from `a`. -/
theorem Memory.get_write (m : Memory) (a : Nat) (v : List Byte) (x : Nat) :
    Memory.get (m.write a v) x = if a ≤ x ∧ x < a + v.length then v.getD (x - a) 0 else m.get x := by
  induction v generalizing m a with
  | nil => rw [Memory.write, if_neg (by simp)]
  | cons b v ih =>
    rw [Memory.write, ih, Memory.get_set, List.length_cons]
    by_cases hx : x = a
    · subst hx; simp
    · by_cases hin : a + 1 ≤ x ∧ x < a + 1 + v.length
      · rw [if_pos hin, if_pos (by omega)]
        obtain ⟨d, hd⟩ : ∃ d, x - a = d + 1 := ⟨x - a - 1, by omega⟩
        rw [hd, show x - (a + 1) = d by omega]; simp
      · rw [if_neg hin, if_neg hx, if_neg (by omega)]

/-- A byte read after `n` zero bytes were written from `a`. -/
theorem Memory.get_fillZero (m : Memory) (a n x : Nat) :
    Memory.get (m.fillZero a n) x = if a ≤ x ∧ x < a + n then 0 else m.get x := by
  unfold Memory.fillZero
  rw [Memory.get_filter m (fun k => k < a || a + n ≤ k) x]
  by_cases h : a ≤ x ∧ x < a + n
  · rw [if_pos h, if_neg (by simp; omega)]
  · rw [if_neg h, if_pos (by simp; omega)]

/-! Ranges of bytes. -/

@[simp] theorem Memory.length_read (m : Memory) (a n : Nat) : (m.read a n).length = n := by simp [Memory.read]

theorem Memory.getElem_read (m : Memory) (a n i : Nat) (h : i < (m.read a n).length) :
    (m.read a n)[i] = m.get (a + i) := by simp [Memory.read]

/-- Two ranges of the same length with the same bytes are equal. -/
theorem Memory.read_congr {m m' : Memory} {a a' n : Nat} (h : ∀ i < n, m.get (a + i) = m'.get (a' + i)) :
    m.read a n = m'.read a' n := by
  unfold Memory.read
  exact List.map_congr_left fun i hi => h i (List.mem_range.mp hi)

/-- A range is its two parts. -/
theorem Memory.read_add (m : Memory) (a n k : Nat) : m.read a (n + k) = m.read a n ++ m.read (a + n) k := by
  simp [Memory.read, List.range_add, Nat.add_assoc]

/-- Writing a range and reading it back. -/
theorem Memory.read_write_same (m : Memory) (a : Nat) (v : List Byte) : (m.write a v).read a v.length = v := by
  refine List.ext_getElem (by simp) fun i h _ => ?_
  have hi : i < v.length := by simpa using h
  rw [Memory.getElem_read, Memory.get_write, if_pos (by omega)]
  simp [hi]

/-- A write leaves the bytes below it alone. -/
theorem Memory.read_write_below (m : Memory) (a : Nat) (v : List Byte) : (m.write a v).read 0 a = m.read 0 a :=
  Memory.read_congr fun i hi => by rw [Memory.get_write, if_neg (by omega)]

/-- A zero fill and its range read back. -/
theorem Memory.read_fillZero_same (m : Memory) (a n : Nat) : (m.fillZero a n).read a n = List.replicate n 0 := by
  refine List.ext_getElem (by simp) fun i h _ => ?_
  have hi : i < n := by simpa using h
  rw [Memory.getElem_read, Memory.get_fillZero, if_pos (by omega)]
  simp

/-- A zero fill leaves the bytes below it alone. -/
theorem Memory.read_fillZero_below (m : Memory) (a n : Nat) : (m.fillZero a n).read 0 a = m.read 0 a :=
  Memory.read_congr fun i hi => by rw [Memory.get_fillZero, if_neg (by omega)]

/-! The canonical form. -/

/-- The canonical form, as facts about the cells. -/
theorem Memory.wf_iff (m : Memory) :
    m.wf = true ↔ m.Pairwise (fun c d => c.1 < d.1) ∧ ∀ c ∈ m, c.2 ≠ 0 := by
  induction m with
  | nil => simp [Memory.wf]
  | cons c m ih =>
    obtain ⟨k, v⟩ := c
    simp only [Memory.wf, Bool.and_eq_true, ih, List.all_eq_true, decide_eq_true_eq, bne_iff_ne, ne_eq,
      List.pairwise_cons, List.mem_cons, forall_eq_or_imp, unlistedByte]
    tauto

theorem Memory.wf_filter {m : Memory} (keep : Host.Cell → Bool) (h : m.wf = true) :
    Memory.wf (m.filter keep) = true := by
  rw [Memory.wf_iff] at *
  exact ⟨h.1.filter keep, fun c hc => h.2 c (List.mem_filter.mp hc).1⟩

theorem Memory.mem_insert {m : Memory} {a : Nat} {b : Byte} {c : Host.Cell} :
    c ∈ Memory.insert a b m ↔ c = (a, b) ∨ c ∈ m := by
  induction m with
  | nil => simp [Memory.insert]
  | cons d m ih =>
    obtain ⟨k, v⟩ := d
    unfold Memory.insert
    split
    · simp
    · simp only [List.mem_cons, ih]; tauto

theorem Memory.wf_insert {m : Memory} {a : Nat} {b : Byte} (h : m.wf = true) (hb : b ≠ 0)
    (ha : ∀ c ∈ m, c.1 ≠ a) : Memory.wf (Memory.insert a b m) = true := by
  induction m with
  | nil => simpa [Memory.insert, Memory.wf, unlistedByte] using hb
  | cons d m ih =>
    obtain ⟨k, v⟩ := d
    have hk : k ≠ a := ha (k, v) (by simp)
    rw [Memory.wf_iff] at h
    obtain ⟨hp, hz⟩ := h
    rw [List.pairwise_cons] at hp
    unfold Memory.insert
    split
    · next hlt =>
      rw [Memory.wf_iff]
      refine ⟨?_, ?_⟩
      · rw [List.pairwise_cons, List.pairwise_cons]
        refine ⟨fun c hc => ?_, hp⟩
        rcases List.mem_cons.mp hc with rfl | hc
        · exact hlt
        · exact Nat.lt_trans hlt (hp.1 c hc)
      · intro c hc
        rcases List.mem_cons.mp hc with rfl | hc
        · exact hb
        · exact hz c hc
    · next hge =>
      have ih := ih ((Memory.wf_iff m).mpr ⟨hp.2, fun c hc => hz c (by simp [hc])⟩) fun c hc => ha c (by simp [hc])
      rw [Memory.wf_iff] at ih ⊢
      refine ⟨?_, ?_⟩
      · rw [List.pairwise_cons]
        refine ⟨fun c hc => ?_, ih.1⟩
        rcases Memory.mem_insert.mp hc with rfl | hc
        · show k < a; omega
        · exact hp.1 c hc
      · intro c hc
        rcases List.mem_cons.mp hc with rfl | hc
        · exact hz _ (by simp)
        · exact ih.2 c hc

theorem Memory.wf_set {m : Memory} (a : Nat) (b : Byte) (h : m.wf = true) : Memory.wf (m.set a b) = true := by
  unfold Memory.set
  split
  · exact Memory.wf_filter _ h
  · next hb => exact Memory.wf_insert (Memory.wf_filter _ h) hb (by simp)

theorem Memory.wf_write {m : Memory} (a : Nat) (v : List Byte) (h : m.wf = true) :
    Memory.wf (m.write a v) = true := by
  induction v generalizing m a with
  | nil => exact h
  | cons b v ih => exact ih (a + 1) (Memory.wf_set a b h)

theorem Memory.wf_fillZero {m : Memory} (a n : Nat) (h : m.wf = true) : Memory.wf (m.fillZero a n) = true :=
  Memory.wf_filter _ h

/-! Which offsets are listed. -/

theorem Memory.below_set {m : Memory} {a n : Nat} {b : Byte} (h : ∀ c ∈ m, c.1 < n) (ha : a < n) :
    ∀ c ∈ m.set a b, c.1 < n := by
  intro c hc
  unfold Memory.set at hc
  split at hc
  · exact h c (List.mem_filter.mp hc).1
  · rcases Memory.mem_insert.mp hc with rfl | hc
    · exact ha
    · exact h c (List.mem_filter.mp hc).1

theorem Memory.below_write {m : Memory} {a n : Nat} {v : List Byte} (h : ∀ c ∈ m, c.1 < n) (ha : a + v.length ≤ n) :
    ∀ c ∈ m.write a v, c.1 < n := by
  induction v generalizing m a with
  | nil => exact h
  | cons b v ih =>
    rw [List.length_cons] at ha
    exact ih (Memory.below_set h (by omega)) (by omega)

theorem Memory.below_fillZero {m : Memory} {a k n : Nat} (h : ∀ c ∈ m, c.1 < n) : ∀ c ∈ m.fillZero a k, c.1 < n :=
  fun c hc => h c (List.mem_filter.mp hc).1

/-- Two canonical memories with the same bytes are the same list. -/
theorem Memory.eq_of_get {m m' : Memory} (h : m.wf = true) (h' : m'.wf = true) (hg : ∀ a, m.get a = m'.get a) :
    m = m' := by
  have lookup : ∀ {m : Memory} {c : Host.Cell}, m.wf = true → c ∈ m → m.get c.1 = c.2 := by
    intro m
    induction m with
    | nil => intro c _ hc; cases hc
    | cons d m ih =>
      obtain ⟨k, v⟩ := d
      intro c h hc
      rw [Memory.get_cons]
      rw [Memory.wf_iff, List.pairwise_cons] at h
      rcases List.mem_cons.mp hc with rfl | hc
      · simp
      · have := h.1.1 c hc
        rw [if_neg (by simp only at this; omega)]
        exact ih ((Memory.wf_iff m).mpr ⟨h.1.2, fun d hd => h.2 d (by simp [hd])⟩) hc
  have back : ∀ {m : Memory} {a : Nat}, m.get a ≠ 0 → (a, m.get a) ∈ m := by
    intro m
    induction m with
    | nil => intro a h; exact absurd rfl h
    | cons d m ih =>
      obtain ⟨k, v⟩ := d
      intro a h
      rw [Memory.get_cons] at h ⊢
      by_cases hk : k = a
      · subst hk; simp
      · rw [if_neg hk] at h ⊢
        exact List.mem_cons_of_mem _ (ih h)
  have sub : ∀ {m m' : Memory}, m.wf = true → (∀ a, m.get a = m'.get a) → ∀ c ∈ m, c ∈ m' := by
    intro m m' h hg c hc
    have hl := lookup h hc
    have hz := ((Memory.wf_iff m).mp h).2 c hc
    have := back (m := m') (a := c.1) (by rw [← hg, hl]; exact hz)
    rw [← hg, hl] at this
    exact this
  have hp := ((Memory.wf_iff m).mp h).1
  have hp' := ((Memory.wf_iff m').mp h').1
  refine List.Perm.eq_of_pairwise (le := fun c d : Host.Cell => c.1 < d.1) ?_ hp hp' ?_
  · intro a b _ _ h1 h2; exact absurd h1 (by omega)
  · refine (List.perm_ext_iff_of_nodup ?_ ?_).mpr fun c => ⟨sub h hg c, sub h' (fun a => (hg a).symm) c⟩
    · exact hp.imp fun {a b} hab hne => by subst hne; exact absurd hab (by omega)
    · exact hp'.imp fun {a b} hab hne => by subst hne; exact absurd hab (by omega)

end Sys2Proof.Machine
end

