-- ==== Sys2Proof/Laws/State.lean ====
section
/-! SUPPORT. One lemma per field per update of the state, so that no later proof unfolds an update. -/

namespace Sys2Proof.Machine

/-! `withRet`. -/

@[simp] theorem State.withRet_expected (s : State) (v : Ret) : (s.withRet v).expected = s.expected := rfl
@[simp] theorem State.withRet_abuf (s : State) (v : Ret) : (s.withRet v).abuf = s.abuf := rfl
@[simp] theorem State.withRet_wptr (s : State) (v : Ret) : (s.withRet v).wptr = s.wptr := rfl
@[simp] theorem State.withRet_session (s : State) (v : Ret) : (s.withRet v).session = s.session := rfl
@[simp] theorem State.withRet_rate (s : State) (v : Ret) : (s.withRet v).rate = s.rate := rfl
@[simp] theorem State.withRet_gsState (s : State) (v : Ret) : (s.withRet v).gsState = s.gsState := rfl
@[simp] theorem State.withRet_zrem (s : State) (v : Ret) : (s.withRet v).zrem = s.zrem := rfl
@[simp] theorem State.withRet_pbuf (s : State) (v : Ret) : (s.withRet v).pbuf = s.pbuf := rfl
@[simp] theorem State.withRet_plen (s : State) (v : Ret) : (s.withRet v).plen = s.plen := rfl
@[simp] theorem State.withRet_dbuf (s : State) (v : Ret) : (s.withRet v).dbuf = s.dbuf := rfl
@[simp] theorem State.withRet_samples (s : State) (v : Ret) : (s.withRet v).samples = s.samples := rfl
@[simp] theorem State.withRet_ctlOut (s : State) (v : Ret) : (s.withRet v).ctlOut = s.ctlOut := rfl
@[simp] theorem State.withRet_fault (s : State) (v : Ret) : (s.withRet v).fault = s.fault := rfl
@[simp] theorem State.withRet_held (s : State) (v : Ret) : (s.withRet v).held = s.held := rfl
@[simp] theorem State.withRet_input (s : State) (v : Ret) : (s.withRet v).input = s.input := rfl
@[simp] theorem State.withRet_ret (s : State) (v : Ret) : (s.withRet v).ret = v := rfl
@[simp] theorem State.withRet_params (s : State) (v : Ret) : (s.withRet v).params = s.params := rfl
@[simp] theorem State.withRet_freeCtr (s : State) (v : Ret) : (s.withRet v).freeCtr = s.freeCtr := rfl

/-! `returnOk`. -/

@[simp] theorem State.returnOk_expected (s : State) : (s.returnOk).expected = s.expected := rfl
@[simp] theorem State.returnOk_abuf (s : State) : (s.returnOk).abuf = s.abuf := rfl
@[simp] theorem State.returnOk_wptr (s : State) : (s.returnOk).wptr = s.wptr := rfl
@[simp] theorem State.returnOk_session (s : State) : (s.returnOk).session = s.session := rfl
@[simp] theorem State.returnOk_rate (s : State) : (s.returnOk).rate = s.rate := rfl
@[simp] theorem State.returnOk_gsState (s : State) : (s.returnOk).gsState = s.gsState := rfl
@[simp] theorem State.returnOk_zrem (s : State) : (s.returnOk).zrem = s.zrem := rfl
@[simp] theorem State.returnOk_pbuf (s : State) : (s.returnOk).pbuf = s.pbuf := rfl
@[simp] theorem State.returnOk_plen (s : State) : (s.returnOk).plen = s.plen := rfl
@[simp] theorem State.returnOk_dbuf (s : State) : (s.returnOk).dbuf = s.dbuf := rfl
@[simp] theorem State.returnOk_samples (s : State) : (s.returnOk).samples = s.samples := rfl
@[simp] theorem State.returnOk_ctlOut (s : State) : (s.returnOk).ctlOut = s.ctlOut := rfl
@[simp] theorem State.returnOk_fault (s : State) : (s.returnOk).fault = s.fault := rfl
@[simp] theorem State.returnOk_held (s : State) : (s.returnOk).held = s.held := rfl
@[simp] theorem State.returnOk_input (s : State) : (s.returnOk).input = s.input := rfl
@[simp] theorem State.returnOk_ret (s : State) : (s.returnOk).ret = .result (.ok none) := rfl
@[simp] theorem State.returnOk_params (s : State) : (s.returnOk).params = s.params := rfl
@[simp] theorem State.returnOk_freeCtr (s : State) : (s.returnOk).freeCtr = s.freeCtr := rfl

/-! `append`. -/

@[simp] theorem State.append_expected (s : State) (v : List Byte) : (s.append v).expected = s.expected := rfl
@[simp] theorem State.append_abuf (s : State) (v : List Byte) : (s.append v).abuf = s.abuf.write s.wptr v := rfl
@[simp] theorem State.append_wptr (s : State) (v : List Byte) : (s.append v).wptr = s.wptr + v.length := rfl
@[simp] theorem State.append_session (s : State) (v : List Byte) : (s.append v).session = s.session := rfl
@[simp] theorem State.append_rate (s : State) (v : List Byte) : (s.append v).rate = s.rate := rfl
@[simp] theorem State.append_gsState (s : State) (v : List Byte) : (s.append v).gsState = s.gsState := rfl
@[simp] theorem State.append_zrem (s : State) (v : List Byte) : (s.append v).zrem = s.zrem := rfl
@[simp] theorem State.append_pbuf (s : State) (v : List Byte) : (s.append v).pbuf = s.pbuf := rfl
@[simp] theorem State.append_plen (s : State) (v : List Byte) : (s.append v).plen = s.plen := rfl
@[simp] theorem State.append_dbuf (s : State) (v : List Byte) : (s.append v).dbuf = s.dbuf := rfl
@[simp] theorem State.append_samples (s : State) (v : List Byte) : (s.append v).samples = s.samples := rfl
@[simp] theorem State.append_ctlOut (s : State) (v : List Byte) : (s.append v).ctlOut = s.ctlOut := rfl
@[simp] theorem State.append_fault (s : State) (v : List Byte) : (s.append v).fault = s.fault := rfl
@[simp] theorem State.append_held (s : State) (v : List Byte) : (s.append v).held = s.held := rfl
@[simp] theorem State.append_input (s : State) (v : List Byte) : (s.append v).input = s.input := rfl
@[simp] theorem State.append_ret (s : State) (v : List Byte) : (s.append v).ret = s.ret := rfl
@[simp] theorem State.append_params (s : State) (v : List Byte) : (s.append v).params = s.params := rfl
@[simp] theorem State.append_freeCtr (s : State) (v : List Byte) : (s.append v).freeCtr = s.freeCtr := rfl

/-! `appendZeros`. -/

@[simp] theorem State.appendZeros_expected (s : State) (n : Nat) : (s.appendZeros n).expected = s.expected := rfl
@[simp] theorem State.appendZeros_abuf (s : State) (n : Nat) : (s.appendZeros n).abuf = s.abuf.fillZero s.wptr n := rfl
@[simp] theorem State.appendZeros_wptr (s : State) (n : Nat) : (s.appendZeros n).wptr = s.wptr + n := rfl
@[simp] theorem State.appendZeros_session (s : State) (n : Nat) : (s.appendZeros n).session = s.session := rfl
@[simp] theorem State.appendZeros_rate (s : State) (n : Nat) : (s.appendZeros n).rate = s.rate := rfl
@[simp] theorem State.appendZeros_gsState (s : State) (n : Nat) : (s.appendZeros n).gsState = s.gsState := rfl
@[simp] theorem State.appendZeros_zrem (s : State) (n : Nat) : (s.appendZeros n).zrem = s.zrem := rfl
@[simp] theorem State.appendZeros_pbuf (s : State) (n : Nat) : (s.appendZeros n).pbuf = s.pbuf := rfl
@[simp] theorem State.appendZeros_plen (s : State) (n : Nat) : (s.appendZeros n).plen = s.plen := rfl
@[simp] theorem State.appendZeros_dbuf (s : State) (n : Nat) : (s.appendZeros n).dbuf = s.dbuf := rfl
@[simp] theorem State.appendZeros_samples (s : State) (n : Nat) : (s.appendZeros n).samples = s.samples := rfl
@[simp] theorem State.appendZeros_ctlOut (s : State) (n : Nat) : (s.appendZeros n).ctlOut = s.ctlOut := rfl
@[simp] theorem State.appendZeros_fault (s : State) (n : Nat) : (s.appendZeros n).fault = s.fault := rfl
@[simp] theorem State.appendZeros_held (s : State) (n : Nat) : (s.appendZeros n).held = s.held := rfl
@[simp] theorem State.appendZeros_input (s : State) (n : Nat) : (s.appendZeros n).input = s.input := rfl
@[simp] theorem State.appendZeros_ret (s : State) (n : Nat) : (s.appendZeros n).ret = s.ret := rfl
@[simp] theorem State.appendZeros_params (s : State) (n : Nat) : (s.appendZeros n).params = s.params := rfl
@[simp] theorem State.appendZeros_freeCtr (s : State) (n : Nat) : (s.appendZeros n).freeCtr = s.freeCtr := rfl

/-! `emit`. -/

@[simp] theorem State.emit_expected (s : State) (m : List Byte) : (s.emit m).expected = s.expected := rfl
@[simp] theorem State.emit_abuf (s : State) (m : List Byte) : (s.emit m).abuf = s.abuf := rfl
@[simp] theorem State.emit_wptr (s : State) (m : List Byte) : (s.emit m).wptr = s.wptr := rfl
@[simp] theorem State.emit_session (s : State) (m : List Byte) : (s.emit m).session = s.session := rfl
@[simp] theorem State.emit_rate (s : State) (m : List Byte) : (s.emit m).rate = s.rate := rfl
@[simp] theorem State.emit_gsState (s : State) (m : List Byte) : (s.emit m).gsState = s.gsState := rfl
@[simp] theorem State.emit_zrem (s : State) (m : List Byte) : (s.emit m).zrem = s.zrem := rfl
@[simp] theorem State.emit_pbuf (s : State) (m : List Byte) : (s.emit m).pbuf = s.pbuf := rfl
@[simp] theorem State.emit_plen (s : State) (m : List Byte) : (s.emit m).plen = s.plen := rfl
@[simp] theorem State.emit_dbuf (s : State) (m : List Byte) : (s.emit m).dbuf = s.dbuf := rfl
@[simp] theorem State.emit_samples (s : State) (m : List Byte) : (s.emit m).samples = s.samples := rfl
@[simp] theorem State.emit_ctlOut (s : State) (m : List Byte) : (s.emit m).ctlOut = s.ctlOut ++ [m] := rfl
@[simp] theorem State.emit_fault (s : State) (m : List Byte) : (s.emit m).fault = s.fault := rfl
@[simp] theorem State.emit_held (s : State) (m : List Byte) : (s.emit m).held = s.held := rfl
@[simp] theorem State.emit_input (s : State) (m : List Byte) : (s.emit m).input = s.input := rfl
@[simp] theorem State.emit_ret (s : State) (m : List Byte) : (s.emit m).ret = s.ret := rfl
@[simp] theorem State.emit_params (s : State) (m : List Byte) : (s.emit m).params = s.params := rfl
@[simp] theorem State.emit_freeCtr (s : State) (m : List Byte) : (s.emit m).freeCtr = s.freeCtr := rfl

/-! `advanceExpected`. -/

@[simp] theorem State.advanceExpected_expected (s : State) : (s.advanceExpected).expected = adv s.expected := rfl
@[simp] theorem State.advanceExpected_abuf (s : State) : (s.advanceExpected).abuf = s.abuf := rfl
@[simp] theorem State.advanceExpected_wptr (s : State) : (s.advanceExpected).wptr = s.wptr := rfl
@[simp] theorem State.advanceExpected_session (s : State) : (s.advanceExpected).session = s.session := rfl
@[simp] theorem State.advanceExpected_rate (s : State) : (s.advanceExpected).rate = s.rate := rfl
@[simp] theorem State.advanceExpected_gsState (s : State) : (s.advanceExpected).gsState = s.gsState := rfl
@[simp] theorem State.advanceExpected_zrem (s : State) : (s.advanceExpected).zrem = s.zrem := rfl
@[simp] theorem State.advanceExpected_pbuf (s : State) : (s.advanceExpected).pbuf = s.pbuf := rfl
@[simp] theorem State.advanceExpected_plen (s : State) : (s.advanceExpected).plen = s.plen := rfl
@[simp] theorem State.advanceExpected_dbuf (s : State) : (s.advanceExpected).dbuf = s.dbuf := rfl
@[simp] theorem State.advanceExpected_samples (s : State) : (s.advanceExpected).samples = s.samples := rfl
@[simp] theorem State.advanceExpected_ctlOut (s : State) : (s.advanceExpected).ctlOut = s.ctlOut := rfl
@[simp] theorem State.advanceExpected_fault (s : State) : (s.advanceExpected).fault = s.fault := rfl
@[simp] theorem State.advanceExpected_held (s : State) : (s.advanceExpected).held = s.held := rfl
@[simp] theorem State.advanceExpected_input (s : State) : (s.advanceExpected).input = s.input := rfl
@[simp] theorem State.advanceExpected_ret (s : State) : (s.advanceExpected).ret = s.ret := rfl
@[simp] theorem State.advanceExpected_params (s : State) : (s.advanceExpected).params = s.params := rfl
@[simp] theorem State.advanceExpected_freeCtr (s : State) : (s.advanceExpected).freeCtr = s.freeCtr := rfl

/-! `resynchronise`. -/

@[simp] theorem State.resynchronise_expected (s : State) (r : Counter) : (s.resynchronise r).expected = adv r := rfl
@[simp] theorem State.resynchronise_abuf (s : State) (r : Counter) : (s.resynchronise r).abuf = s.abuf := rfl
@[simp] theorem State.resynchronise_wptr (s : State) (r : Counter) : (s.resynchronise r).wptr = s.wptr := rfl
@[simp] theorem State.resynchronise_session (s : State) (r : Counter) : (s.resynchronise r).session = s.session := rfl
@[simp] theorem State.resynchronise_rate (s : State) (r : Counter) : (s.resynchronise r).rate = s.rate := rfl
@[simp] theorem State.resynchronise_gsState (s : State) (r : Counter) : (s.resynchronise r).gsState = s.gsState := rfl
@[simp] theorem State.resynchronise_zrem (s : State) (r : Counter) : (s.resynchronise r).zrem = s.zrem := rfl
@[simp] theorem State.resynchronise_pbuf (s : State) (r : Counter) : (s.resynchronise r).pbuf = s.pbuf := rfl
@[simp] theorem State.resynchronise_plen (s : State) (r : Counter) : (s.resynchronise r).plen = s.plen := rfl
@[simp] theorem State.resynchronise_dbuf (s : State) (r : Counter) : (s.resynchronise r).dbuf = s.dbuf := rfl
@[simp] theorem State.resynchronise_samples (s : State) (r : Counter) : (s.resynchronise r).samples = s.samples := rfl
@[simp] theorem State.resynchronise_ctlOut (s : State) (r : Counter) : (s.resynchronise r).ctlOut = s.ctlOut := rfl
@[simp] theorem State.resynchronise_fault (s : State) (r : Counter) : (s.resynchronise r).fault = s.fault := rfl
@[simp] theorem State.resynchronise_held (s : State) (r : Counter) : (s.resynchronise r).held = s.held := rfl
@[simp] theorem State.resynchronise_input (s : State) (r : Counter) : (s.resynchronise r).input = s.input := rfl
@[simp] theorem State.resynchronise_ret (s : State) (r : Counter) : (s.resynchronise r).ret = s.ret := rfl
@[simp] theorem State.resynchronise_params (s : State) (r : Counter) : (s.resynchronise r).params = s.params := rfl
@[simp] theorem State.resynchronise_freeCtr (s : State) (r : Counter) : (s.resynchronise r).freeCtr = s.freeCtr := rfl

/-! `loadSynthesizer`. -/

@[simp] theorem State.loadSynthesizer_expected (s : State) (p : List Byte) (v : Verdict) :
    (s.loadSynthesizer p v).expected = s.expected := rfl
@[simp] theorem State.loadSynthesizer_abuf (s : State) (p : List Byte) (v : Verdict) :
    (s.loadSynthesizer p v).abuf = s.abuf := rfl
@[simp] theorem State.loadSynthesizer_wptr (s : State) (p : List Byte) (v : Verdict) :
    (s.loadSynthesizer p v).wptr = s.wptr := rfl
@[simp] theorem State.loadSynthesizer_session (s : State) (p : List Byte) (v : Verdict) :
    (s.loadSynthesizer p v).session = s.session := rfl
@[simp] theorem State.loadSynthesizer_rate (s : State) (p : List Byte) (v : Verdict) :
    (s.loadSynthesizer p v).rate = s.rate := rfl
@[simp] theorem State.loadSynthesizer_gsState (s : State) (p : List Byte) (v : Verdict) :
    (s.loadSynthesizer p v).gsState = if v.count = 0 then .payload else .zfill := rfl
@[simp] theorem State.loadSynthesizer_zrem (s : State) (p : List Byte) (v : Verdict) :
    (s.loadSynthesizer p v).zrem = v.count := rfl
@[simp] theorem State.loadSynthesizer_pbuf (s : State) (p : List Byte) (v : Verdict) :
    (s.loadSynthesizer p v).pbuf = loadPbuf s.pbuf p := rfl
@[simp] theorem State.loadSynthesizer_plen (s : State) (p : List Byte) (v : Verdict) :
    (s.loadSynthesizer p v).plen = BitVec.ofNat 9 p.length := rfl
@[simp] theorem State.loadSynthesizer_dbuf (s : State) (p : List Byte) (v : Verdict) :
    (s.loadSynthesizer p v).dbuf = s.dbuf := rfl
@[simp] theorem State.loadSynthesizer_samples (s : State) (p : List Byte) (v : Verdict) :
    (s.loadSynthesizer p v).samples = s.samples := rfl
@[simp] theorem State.loadSynthesizer_ctlOut (s : State) (p : List Byte) (v : Verdict) :
    (s.loadSynthesizer p v).ctlOut = s.ctlOut := rfl
@[simp] theorem State.loadSynthesizer_fault (s : State) (p : List Byte) (v : Verdict) :
    (s.loadSynthesizer p v).fault = s.fault := rfl
@[simp] theorem State.loadSynthesizer_held (s : State) (p : List Byte) (v : Verdict) :
    (s.loadSynthesizer p v).held = s.held := rfl
@[simp] theorem State.loadSynthesizer_input (s : State) (p : List Byte) (v : Verdict) :
    (s.loadSynthesizer p v).input = s.input := rfl
@[simp] theorem State.loadSynthesizer_ret (s : State) (p : List Byte) (v : Verdict) :
    (s.loadSynthesizer p v).ret = s.ret := rfl
@[simp] theorem State.loadSynthesizer_params (s : State) (p : List Byte) (v : Verdict) :
    (s.loadSynthesizer p v).params = s.params := rfl
@[simp] theorem State.loadSynthesizer_freeCtr (s : State) (p : List Byte) (v : Verdict) :
    (s.loadSynthesizer p v).freeCtr = s.freeCtr := rfl

/-! `zeroFillBlock`. -/

@[simp] theorem State.zeroFillBlock_expected (s : State) : (s.zeroFillBlock).expected = s.expected := rfl
@[simp] theorem State.zeroFillBlock_abuf (s : State) : (s.zeroFillBlock).abuf = s.abuf.fillZero s.wptr 256 := rfl
@[simp] theorem State.zeroFillBlock_wptr (s : State) : (s.zeroFillBlock).wptr = s.wptr + 256 := rfl
@[simp] theorem State.zeroFillBlock_session (s : State) : (s.zeroFillBlock).session = s.session := rfl
@[simp] theorem State.zeroFillBlock_rate (s : State) : (s.zeroFillBlock).rate = s.rate := rfl
@[simp] theorem State.zeroFillBlock_gsState (s : State) :
    (s.zeroFillBlock).gsState = if s.zrem - 1 = 0 then .payload else s.gsState := rfl
@[simp] theorem State.zeroFillBlock_zrem (s : State) : (s.zeroFillBlock).zrem = s.zrem - 1 := rfl
@[simp] theorem State.zeroFillBlock_pbuf (s : State) : (s.zeroFillBlock).pbuf = s.pbuf := rfl
@[simp] theorem State.zeroFillBlock_plen (s : State) : (s.zeroFillBlock).plen = s.plen := rfl
@[simp] theorem State.zeroFillBlock_dbuf (s : State) : (s.zeroFillBlock).dbuf = s.dbuf := rfl
@[simp] theorem State.zeroFillBlock_samples (s : State) : (s.zeroFillBlock).samples = s.samples := rfl
@[simp] theorem State.zeroFillBlock_ctlOut (s : State) : (s.zeroFillBlock).ctlOut = s.ctlOut := rfl
@[simp] theorem State.zeroFillBlock_fault (s : State) : (s.zeroFillBlock).fault = s.fault := rfl
@[simp] theorem State.zeroFillBlock_held (s : State) : (s.zeroFillBlock).held = s.held := rfl
@[simp] theorem State.zeroFillBlock_input (s : State) : (s.zeroFillBlock).input = s.input := rfl
@[simp] theorem State.zeroFillBlock_ret (s : State) : (s.zeroFillBlock).ret = s.ret := rfl
@[simp] theorem State.zeroFillBlock_params (s : State) : (s.zeroFillBlock).params = s.params := rfl
@[simp] theorem State.zeroFillBlock_freeCtr (s : State) : (s.zeroFillBlock).freeCtr = s.freeCtr := rfl

/-! `flushPayload`. -/

@[simp] theorem State.flushPayload_expected (s : State) : (s.flushPayload).expected = s.expected := rfl
@[simp] theorem State.flushPayload_abuf (s : State) : (s.flushPayload).abuf = s.abuf.write s.wptr s.pbufBytes := rfl
@[simp] theorem State.flushPayload_wptr (s : State) : (s.flushPayload).wptr = s.wptr + s.pbufBytes.length := rfl
@[simp] theorem State.flushPayload_session (s : State) : (s.flushPayload).session = s.session := rfl
@[simp] theorem State.flushPayload_rate (s : State) : (s.flushPayload).rate = s.rate := rfl
@[simp] theorem State.flushPayload_gsState (s : State) : (s.flushPayload).gsState = .idle := rfl
@[simp] theorem State.flushPayload_zrem (s : State) : (s.flushPayload).zrem = s.zrem := rfl
@[simp] theorem State.flushPayload_pbuf (s : State) : (s.flushPayload).pbuf = s.pbuf := rfl
@[simp] theorem State.flushPayload_plen (s : State) : (s.flushPayload).plen = s.plen := rfl
@[simp] theorem State.flushPayload_dbuf (s : State) : (s.flushPayload).dbuf = s.dbuf := rfl
@[simp] theorem State.flushPayload_samples (s : State) : (s.flushPayload).samples = s.samples := rfl
@[simp] theorem State.flushPayload_ctlOut (s : State) : (s.flushPayload).ctlOut = s.ctlOut := rfl
@[simp] theorem State.flushPayload_fault (s : State) : (s.flushPayload).fault = s.fault := rfl
@[simp] theorem State.flushPayload_held (s : State) : (s.flushPayload).held = s.held := rfl
@[simp] theorem State.flushPayload_input (s : State) : (s.flushPayload).input = s.input := rfl
@[simp] theorem State.flushPayload_ret (s : State) : (s.flushPayload).ret = s.ret := rfl
@[simp] theorem State.flushPayload_params (s : State) : (s.flushPayload).params = s.params := rfl
@[simp] theorem State.flushPayload_freeCtr (s : State) : (s.flushPayload).freeCtr = s.freeCtr := rfl

/-! `reassemble`. -/

@[simp] theorem State.reassemble_expected (s : State) (p : List Byte) (v : Verdict) :
    (s.reassemble p v).expected = s.expected := rfl
@[simp] theorem State.reassemble_abuf (s : State) (p : List Byte) (v : Verdict) :
    (s.reassemble p v).abuf = (s.abuf.fillZero s.wptr v.fillBytes).write (s.wptr + v.fillBytes) p := rfl
@[simp] theorem State.reassemble_wptr (s : State) (p : List Byte) (v : Verdict) :
    (s.reassemble p v).wptr = s.wptr + v.fillBytes + p.length := rfl
@[simp] theorem State.reassemble_session (s : State) (p : List Byte) (v : Verdict) :
    (s.reassemble p v).session = s.session := rfl
@[simp] theorem State.reassemble_rate (s : State) (p : List Byte) (v : Verdict) :
    (s.reassemble p v).rate = s.rate := rfl
@[simp] theorem State.reassemble_gsState (s : State) (p : List Byte) (v : Verdict) :
    (s.reassemble p v).gsState = s.gsState := rfl
@[simp] theorem State.reassemble_zrem (s : State) (p : List Byte) (v : Verdict) :
    (s.reassemble p v).zrem = s.zrem := rfl
@[simp] theorem State.reassemble_pbuf (s : State) (p : List Byte) (v : Verdict) :
    (s.reassemble p v).pbuf = s.pbuf := rfl
@[simp] theorem State.reassemble_plen (s : State) (p : List Byte) (v : Verdict) :
    (s.reassemble p v).plen = s.plen := rfl
@[simp] theorem State.reassemble_dbuf (s : State) (p : List Byte) (v : Verdict) :
    (s.reassemble p v).dbuf = s.dbuf := rfl
@[simp] theorem State.reassemble_samples (s : State) (p : List Byte) (v : Verdict) :
    (s.reassemble p v).samples = s.samples := rfl
@[simp] theorem State.reassemble_ctlOut (s : State) (p : List Byte) (v : Verdict) :
    (s.reassemble p v).ctlOut = s.ctlOut := rfl
@[simp] theorem State.reassemble_fault (s : State) (p : List Byte) (v : Verdict) :
    (s.reassemble p v).fault = s.fault := rfl
@[simp] theorem State.reassemble_held (s : State) (p : List Byte) (v : Verdict) :
    (s.reassemble p v).held = s.held := rfl
@[simp] theorem State.reassemble_input (s : State) (p : List Byte) (v : Verdict) :
    (s.reassemble p v).input = s.input := rfl
@[simp] theorem State.reassemble_ret (s : State) (p : List Byte) (v : Verdict) : (s.reassemble p v).ret = s.ret := rfl
@[simp] theorem State.reassemble_params (s : State) (p : List Byte) (v : Verdict) :
    (s.reassemble p v).params = s.params := rfl
@[simp] theorem State.reassemble_freeCtr (s : State) (p : List Byte) (v : Verdict) :
    (s.reassemble p v).freeCtr = s.freeCtr := rfl

/-! `hold`. -/

@[simp] theorem State.hold_expected (s : State) (p : Packet) : (s.hold p).expected = s.expected := rfl
@[simp] theorem State.hold_abuf (s : State) (p : Packet) : (s.hold p).abuf = s.abuf := rfl
@[simp] theorem State.hold_wptr (s : State) (p : Packet) : (s.hold p).wptr = s.wptr := rfl
@[simp] theorem State.hold_session (s : State) (p : Packet) : (s.hold p).session = s.session := rfl
@[simp] theorem State.hold_rate (s : State) (p : Packet) : (s.hold p).rate = s.rate := rfl
@[simp] theorem State.hold_gsState (s : State) (p : Packet) : (s.hold p).gsState = s.gsState := rfl
@[simp] theorem State.hold_zrem (s : State) (p : Packet) : (s.hold p).zrem = s.zrem := rfl
@[simp] theorem State.hold_pbuf (s : State) (p : Packet) : (s.hold p).pbuf = s.pbuf := rfl
@[simp] theorem State.hold_plen (s : State) (p : Packet) : (s.hold p).plen = s.plen := rfl
@[simp] theorem State.hold_dbuf (s : State) (p : Packet) : (s.hold p).dbuf = s.dbuf := rfl
@[simp] theorem State.hold_samples (s : State) (p : Packet) : (s.hold p).samples = s.samples := rfl
@[simp] theorem State.hold_ctlOut (s : State) (p : Packet) : (s.hold p).ctlOut = s.ctlOut := rfl
@[simp] theorem State.hold_fault (s : State) (p : Packet) : (s.hold p).fault = s.fault := rfl
@[simp] theorem State.hold_held (s : State) (p : Packet) : (s.hold p).held = s.held ++ [p] := rfl
@[simp] theorem State.hold_input (s : State) (p : Packet) : (s.hold p).input = s.input := rfl
@[simp] theorem State.hold_ret (s : State) (p : Packet) : (s.hold p).ret = s.ret := rfl
@[simp] theorem State.hold_params (s : State) (p : Packet) : (s.hold p).params = s.params := rfl
@[simp] theorem State.hold_freeCtr (s : State) (p : Packet) : (s.hold p).freeCtr = s.freeCtr := rfl

/-! `openSession`. -/

@[simp] theorem State.openSession_expected (s : State) (rc : Byte) : (s.openSession rc).expected = 0 := rfl
@[simp] theorem State.openSession_abuf (s : State) (rc : Byte) : (s.openSession rc).abuf = [] := rfl
@[simp] theorem State.openSession_wptr (s : State) (rc : Byte) : (s.openSession rc).wptr = 0 := rfl
@[simp] theorem State.openSession_session (s : State) (rc : Byte) : (s.openSession rc).session = .started := rfl
@[simp] theorem State.openSession_rate (s : State) (rc : Byte) : (s.openSession rc).rate = rc.setWidth 2 := rfl
@[simp] theorem State.openSession_gsState (s : State) (rc : Byte) : (s.openSession rc).gsState = s.gsState := rfl
@[simp] theorem State.openSession_zrem (s : State) (rc : Byte) : (s.openSession rc).zrem = s.zrem := rfl
@[simp] theorem State.openSession_pbuf (s : State) (rc : Byte) : (s.openSession rc).pbuf = s.pbuf := rfl
@[simp] theorem State.openSession_plen (s : State) (rc : Byte) : (s.openSession rc).plen = s.plen := rfl
@[simp] theorem State.openSession_dbuf (s : State) (rc : Byte) : (s.openSession rc).dbuf = s.dbuf := rfl
@[simp] theorem State.openSession_samples (s : State) (rc : Byte) : (s.openSession rc).samples = s.samples := rfl
@[simp] theorem State.openSession_ctlOut (s : State) (rc : Byte) :
    (s.openSession rc).ctlOut = s.ctlOut ++ [startMessage (rc.setWidth 2)] := rfl
@[simp] theorem State.openSession_fault (s : State) (rc : Byte) : (s.openSession rc).fault = s.fault := rfl
@[simp] theorem State.openSession_held (s : State) (rc : Byte) : (s.openSession rc).held = s.held := rfl
@[simp] theorem State.openSession_input (s : State) (rc : Byte) : (s.openSession rc).input = s.input := rfl
@[simp] theorem State.openSession_ret (s : State) (rc : Byte) : (s.openSession rc).ret = s.ret := rfl
@[simp] theorem State.openSession_params (s : State) (rc : Byte) : (s.openSession rc).params = s.params := rfl
@[simp] theorem State.openSession_freeCtr (s : State) (rc : Byte) : (s.openSession rc).freeCtr = s.freeCtr := rfl

/-! `enterReceiving`. -/

@[simp] theorem State.enterReceiving_expected (s : State) : (s.enterReceiving).expected = s.expected := rfl
@[simp] theorem State.enterReceiving_abuf (s : State) : (s.enterReceiving).abuf = s.abuf := rfl
@[simp] theorem State.enterReceiving_wptr (s : State) : (s.enterReceiving).wptr = s.wptr := rfl
@[simp] theorem State.enterReceiving_session (s : State) : (s.enterReceiving).session = .receiving := rfl
@[simp] theorem State.enterReceiving_rate (s : State) : (s.enterReceiving).rate = s.rate := rfl
@[simp] theorem State.enterReceiving_gsState (s : State) : (s.enterReceiving).gsState = s.gsState := rfl
@[simp] theorem State.enterReceiving_zrem (s : State) : (s.enterReceiving).zrem = s.zrem := rfl
@[simp] theorem State.enterReceiving_pbuf (s : State) : (s.enterReceiving).pbuf = s.pbuf := rfl
@[simp] theorem State.enterReceiving_plen (s : State) : (s.enterReceiving).plen = s.plen := rfl
@[simp] theorem State.enterReceiving_dbuf (s : State) : (s.enterReceiving).dbuf = s.dbuf := rfl
@[simp] theorem State.enterReceiving_samples (s : State) : (s.enterReceiving).samples = s.samples := rfl
@[simp] theorem State.enterReceiving_ctlOut (s : State) : (s.enterReceiving).ctlOut = s.ctlOut := rfl
@[simp] theorem State.enterReceiving_fault (s : State) : (s.enterReceiving).fault = s.fault := rfl
@[simp] theorem State.enterReceiving_held (s : State) : (s.enterReceiving).held = s.held := rfl
@[simp] theorem State.enterReceiving_input (s : State) : (s.enterReceiving).input = s.input := rfl
@[simp] theorem State.enterReceiving_ret (s : State) : (s.enterReceiving).ret = s.ret := rfl
@[simp] theorem State.enterReceiving_params (s : State) : (s.enterReceiving).params = s.params := rfl
@[simp] theorem State.enterReceiving_freeCtr (s : State) : (s.enterReceiving).freeCtr = s.freeCtr := rfl

/-! `expireDbuf`. -/

@[simp] theorem State.expireDbuf_expected (s : State) : (s.expireDbuf).expected = s.expected := rfl
@[simp] theorem State.expireDbuf_abuf (s : State) : (s.expireDbuf).abuf = s.abuf := rfl
@[simp] theorem State.expireDbuf_wptr (s : State) : (s.expireDbuf).wptr = s.wptr := rfl
@[simp] theorem State.expireDbuf_session (s : State) : (s.expireDbuf).session = s.session := rfl
@[simp] theorem State.expireDbuf_rate (s : State) : (s.expireDbuf).rate = s.rate := rfl
@[simp] theorem State.expireDbuf_gsState (s : State) : (s.expireDbuf).gsState = s.gsState := rfl
@[simp] theorem State.expireDbuf_zrem (s : State) : (s.expireDbuf).zrem = s.zrem := rfl
@[simp] theorem State.expireDbuf_pbuf (s : State) : (s.expireDbuf).pbuf = s.pbuf := rfl
@[simp] theorem State.expireDbuf_plen (s : State) : (s.expireDbuf).plen = s.plen := rfl
@[simp] theorem State.expireDbuf_dbuf (s : State) : (s.expireDbuf).dbuf = (Config.freeDbuf s.freeCtr).take 259 := rfl
@[simp] theorem State.expireDbuf_samples (s : State) : (s.expireDbuf).samples = s.samples := rfl
@[simp] theorem State.expireDbuf_ctlOut (s : State) : (s.expireDbuf).ctlOut = s.ctlOut := rfl
@[simp] theorem State.expireDbuf_fault (s : State) : (s.expireDbuf).fault = s.fault := rfl
@[simp] theorem State.expireDbuf_held (s : State) : (s.expireDbuf).held = s.held := rfl
@[simp] theorem State.expireDbuf_input (s : State) : (s.expireDbuf).input = s.input := rfl
@[simp] theorem State.expireDbuf_ret (s : State) : (s.expireDbuf).ret = s.ret := rfl
@[simp] theorem State.expireDbuf_params (s : State) : (s.expireDbuf).params = s.params := rfl
@[simp] theorem State.expireDbuf_freeCtr (s : State) : (s.expireDbuf).freeCtr = s.freeCtr + 1 := rfl

/-! `stopSequence`. -/

@[simp] theorem State.stopSequence_expected (s : State) : (s.stopSequence).expected = s.expected := rfl
@[simp] theorem State.stopSequence_abuf (s : State) : (s.stopSequence).abuf = s.abuf := rfl
@[simp] theorem State.stopSequence_wptr (s : State) : (s.stopSequence).wptr = s.wptr := rfl
@[simp] theorem State.stopSequence_session (s : State) : (s.stopSequence).session = .stopped := rfl
@[simp] theorem State.stopSequence_rate (s : State) : (s.stopSequence).rate = s.rate := rfl
@[simp] theorem State.stopSequence_gsState (s : State) : (s.stopSequence).gsState = s.gsState := rfl
@[simp] theorem State.stopSequence_zrem (s : State) : (s.stopSequence).zrem = s.zrem := rfl
@[simp] theorem State.stopSequence_pbuf (s : State) : (s.stopSequence).pbuf = s.pbuf := rfl
@[simp] theorem State.stopSequence_plen (s : State) : (s.stopSequence).plen = s.plen := rfl
@[simp] theorem State.stopSequence_dbuf (s : State) : (s.stopSequence).dbuf = s.dbuf := rfl
@[simp] theorem State.stopSequence_samples (s : State) : (s.stopSequence).samples = decodeBuffer s.abufBytes := rfl
@[simp] theorem State.stopSequence_ctlOut (s : State) : (s.stopSequence).ctlOut = s.ctlOut ++ [stopMessage] := rfl
@[simp] theorem State.stopSequence_fault (s : State) : (s.stopSequence).fault = s.fault := rfl
@[simp] theorem State.stopSequence_held (s : State) : (s.stopSequence).held = s.held := rfl
@[simp] theorem State.stopSequence_input (s : State) : (s.stopSequence).input = s.input := rfl
@[simp] theorem State.stopSequence_ret (s : State) : (s.stopSequence).ret = .result (.ok none) := rfl
@[simp] theorem State.stopSequence_params (s : State) : (s.stopSequence).params = s.params := rfl
@[simp] theorem State.stopSequence_freeCtr (s : State) : (s.stopSequence).freeCtr = s.freeCtr := rfl

/-! `classified`: EXPECTED alone changes, to the successor of the counter seen (R147). -/

theorem State.classified_eq (s : State) (r : Counter) : s.classified r = { s with expected := adv r } := by
  unfold State.classified
  split
  · next h => subst h; rfl
  · rfl

@[simp] theorem State.classified_expected (s : State) (r : Counter) : (s.classified r).expected = adv r := by
  rw [State.classified_eq]
@[simp] theorem State.classified_abuf (s : State) (r : Counter) : (s.classified r).abuf = s.abuf := by
  rw [State.classified_eq]
@[simp] theorem State.classified_wptr (s : State) (r : Counter) : (s.classified r).wptr = s.wptr := by
  rw [State.classified_eq]
@[simp] theorem State.classified_session (s : State) (r : Counter) : (s.classified r).session = s.session := by
  rw [State.classified_eq]
@[simp] theorem State.classified_rate (s : State) (r : Counter) : (s.classified r).rate = s.rate := by
  rw [State.classified_eq]
@[simp] theorem State.classified_gsState (s : State) (r : Counter) : (s.classified r).gsState = s.gsState := by
  rw [State.classified_eq]
@[simp] theorem State.classified_zrem (s : State) (r : Counter) : (s.classified r).zrem = s.zrem := by
  rw [State.classified_eq]
@[simp] theorem State.classified_pbuf (s : State) (r : Counter) : (s.classified r).pbuf = s.pbuf := by
  rw [State.classified_eq]
@[simp] theorem State.classified_plen (s : State) (r : Counter) : (s.classified r).plen = s.plen := by
  rw [State.classified_eq]
@[simp] theorem State.classified_dbuf (s : State) (r : Counter) : (s.classified r).dbuf = s.dbuf := by
  rw [State.classified_eq]
@[simp] theorem State.classified_samples (s : State) (r : Counter) : (s.classified r).samples = s.samples := by
  rw [State.classified_eq]
@[simp] theorem State.classified_ctlOut (s : State) (r : Counter) : (s.classified r).ctlOut = s.ctlOut := by
  rw [State.classified_eq]
@[simp] theorem State.classified_fault (s : State) (r : Counter) : (s.classified r).fault = s.fault := by
  rw [State.classified_eq]
@[simp] theorem State.classified_held (s : State) (r : Counter) : (s.classified r).held = s.held := by
  rw [State.classified_eq]
@[simp] theorem State.classified_input (s : State) (r : Counter) : (s.classified r).input = s.input := by
  rw [State.classified_eq]
@[simp] theorem State.classified_ret (s : State) (r : Counter) : (s.classified r).ret = s.ret := by
  rw [State.classified_eq]
@[simp] theorem State.classified_params (s : State) (r : Counter) : (s.classified r).params = s.params := by
  rw [State.classified_eq]
@[simp] theorem State.classified_freeCtr (s : State) (r : Counter) : (s.classified r).freeCtr = s.freeCtr := by
  rw [State.classified_eq]

/-! `loadDbuf`: DBUF alone changes, and only for a datagram that is not oversize. -/

@[simp] theorem State.loadDbuf_expected (s : State) (d : List Byte) : (s.loadDbuf d).expected = s.expected := by
  unfold State.loadDbuf; split <;> rfl
@[simp] theorem State.loadDbuf_abuf (s : State) (d : List Byte) : (s.loadDbuf d).abuf = s.abuf := by
  unfold State.loadDbuf; split <;> rfl
@[simp] theorem State.loadDbuf_wptr (s : State) (d : List Byte) : (s.loadDbuf d).wptr = s.wptr := by
  unfold State.loadDbuf; split <;> rfl
@[simp] theorem State.loadDbuf_session (s : State) (d : List Byte) : (s.loadDbuf d).session = s.session := by
  unfold State.loadDbuf; split <;> rfl
@[simp] theorem State.loadDbuf_rate (s : State) (d : List Byte) : (s.loadDbuf d).rate = s.rate := by
  unfold State.loadDbuf; split <;> rfl
@[simp] theorem State.loadDbuf_gsState (s : State) (d : List Byte) : (s.loadDbuf d).gsState = s.gsState := by
  unfold State.loadDbuf; split <;> rfl
@[simp] theorem State.loadDbuf_zrem (s : State) (d : List Byte) : (s.loadDbuf d).zrem = s.zrem := by
  unfold State.loadDbuf; split <;> rfl
@[simp] theorem State.loadDbuf_pbuf (s : State) (d : List Byte) : (s.loadDbuf d).pbuf = s.pbuf := by
  unfold State.loadDbuf; split <;> rfl
@[simp] theorem State.loadDbuf_plen (s : State) (d : List Byte) : (s.loadDbuf d).plen = s.plen := by
  unfold State.loadDbuf; split <;> rfl
@[simp] theorem State.loadDbuf_samples (s : State) (d : List Byte) : (s.loadDbuf d).samples = s.samples := by
  unfold State.loadDbuf; split <;> rfl
@[simp] theorem State.loadDbuf_ctlOut (s : State) (d : List Byte) : (s.loadDbuf d).ctlOut = s.ctlOut := by
  unfold State.loadDbuf; split <;> rfl
@[simp] theorem State.loadDbuf_fault (s : State) (d : List Byte) : (s.loadDbuf d).fault = s.fault := by
  unfold State.loadDbuf; split <;> rfl
@[simp] theorem State.loadDbuf_held (s : State) (d : List Byte) : (s.loadDbuf d).held = s.held := by
  unfold State.loadDbuf; split <;> rfl
@[simp] theorem State.loadDbuf_input (s : State) (d : List Byte) : (s.loadDbuf d).input = s.input := by
  unfold State.loadDbuf; split <;> rfl
@[simp] theorem State.loadDbuf_ret (s : State) (d : List Byte) : (s.loadDbuf d).ret = s.ret := by
  unfold State.loadDbuf; split <;> rfl
@[simp] theorem State.loadDbuf_params (s : State) (d : List Byte) : (s.loadDbuf d).params = s.params := by
  unfold State.loadDbuf; split <;> rfl
@[simp] theorem State.loadDbuf_freeCtr (s : State) (d : List Byte) : (s.loadDbuf d).freeCtr = s.freeCtr := by
  unfold State.loadDbuf; split <;> rfl

theorem State.loadDbuf_dbuf (s : State) (d : List Byte) (h : oversizeLength d = false) : (s.loadDbuf d).dbuf = d := by
  simp [State.loadDbuf, h]

/-! `raise`: only BufferOverflow changes more than the value returned (R223). -/

@[simp] theorem State.raise_badState (s : State) : s.raise .badState = s.withRet (.result .badState) := rfl
@[simp] theorem State.raise_invalidConfiguration (s : State) (rc : Byte) :
    s.raise (.invalidConfiguration rc) = s.withRet (.result (.invalidConfiguration rc)) := rfl
@[simp] theorem State.raise_shortDatagram (s : State) (n : Nat) :
    s.raise (.shortDatagram n) = s.withRet (.result (.shortDatagram n)) := rfl
@[simp] theorem State.raise_oversizeDatagram (s : State) (n : Nat) :
    s.raise (.oversizeDatagram n) = s.withRet (.result (.oversizeDatagram n)) := rfl

@[simp] theorem State.scramble_expected (s : State) : (s.scramble).expected = Config.freeExpected s.freeCtr := rfl
@[simp] theorem State.scramble_abuf (s : State) : (s.scramble).abuf = Memory.write [] 0 (Config.freeAbuf s.freeCtr) := rfl
@[simp] theorem State.scramble_wptr (s : State) : (s.scramble).wptr = Config.freeWptr s.freeCtr := rfl
@[simp] theorem State.scramble_session (s : State) : (s.scramble).session = s.session := rfl
@[simp] theorem State.scramble_rate (s : State) : (s.scramble).rate = s.rate := rfl
@[simp] theorem State.scramble_gsState (s : State) : (s.scramble).gsState = Config.freeGsState s.freeCtr := rfl
@[simp] theorem State.scramble_zrem (s : State) : (s.scramble).zrem = Config.freeZrem s.freeCtr := rfl
@[simp] theorem State.scramble_pbuf (s : State) : (s.scramble).pbuf = Config.freePbuf s.freeCtr := rfl
@[simp] theorem State.scramble_plen (s : State) : (s.scramble).plen = Config.freePlen s.freeCtr := rfl
@[simp] theorem State.scramble_dbuf (s : State) : (s.scramble).dbuf = s.dbuf := rfl
@[simp] theorem State.scramble_samples (s : State) : (s.scramble).samples = Config.freeSamples s.freeCtr := rfl
@[simp] theorem State.scramble_ctlOut (s : State) : (s.scramble).ctlOut = s.ctlOut := rfl
@[simp] theorem State.scramble_fault (s : State) : (s.scramble).fault = s.fault := rfl
@[simp] theorem State.scramble_held (s : State) : (s.scramble).held = s.held := rfl
@[simp] theorem State.scramble_input (s : State) : (s.scramble).input = s.input := rfl
@[simp] theorem State.scramble_ret (s : State) : (s.scramble).ret = s.ret := rfl
@[simp] theorem State.scramble_params (s : State) : (s.scramble).params = s.params := rfl
@[simp] theorem State.scramble_freeCtr (s : State) : (s.scramble).freeCtr = s.freeCtr + 1 := rfl

@[simp] theorem State.raise_bufferOverflow_expected (s : State) : (s.raise .bufferOverflow).expected = Config.freeExpected s.freeCtr := rfl
@[simp] theorem State.raise_bufferOverflow_abuf (s : State) : (s.raise .bufferOverflow).abuf = Memory.write [] 0 (Config.freeAbuf s.freeCtr) := rfl
@[simp] theorem State.raise_bufferOverflow_wptr (s : State) : (s.raise .bufferOverflow).wptr = Config.freeWptr s.freeCtr := rfl
@[simp] theorem State.raise_bufferOverflow_session (s : State) : (s.raise .bufferOverflow).session = s.session := rfl
@[simp] theorem State.raise_bufferOverflow_rate (s : State) : (s.raise .bufferOverflow).rate = s.rate := rfl
@[simp] theorem State.raise_bufferOverflow_gsState (s : State) : (s.raise .bufferOverflow).gsState = Config.freeGsState s.freeCtr := rfl
@[simp] theorem State.raise_bufferOverflow_zrem (s : State) : (s.raise .bufferOverflow).zrem = Config.freeZrem s.freeCtr := rfl
@[simp] theorem State.raise_bufferOverflow_pbuf (s : State) : (s.raise .bufferOverflow).pbuf = Config.freePbuf s.freeCtr := rfl
@[simp] theorem State.raise_bufferOverflow_plen (s : State) : (s.raise .bufferOverflow).plen = Config.freePlen s.freeCtr := rfl
@[simp] theorem State.raise_bufferOverflow_dbuf (s : State) : (s.raise .bufferOverflow).dbuf = s.dbuf := rfl
@[simp] theorem State.raise_bufferOverflow_samples (s : State) : (s.raise .bufferOverflow).samples = Config.freeSamples s.freeCtr := rfl
@[simp] theorem State.raise_bufferOverflow_ctlOut (s : State) : (s.raise .bufferOverflow).ctlOut = s.ctlOut := rfl
@[simp] theorem State.raise_bufferOverflow_fault (s : State) : (s.raise .bufferOverflow).fault = true := rfl
@[simp] theorem State.raise_bufferOverflow_held (s : State) : (s.raise .bufferOverflow).held = s.held := rfl
@[simp] theorem State.raise_bufferOverflow_input (s : State) : (s.raise .bufferOverflow).input = s.input := rfl
@[simp] theorem State.raise_bufferOverflow_ret (s : State) : (s.raise .bufferOverflow).ret = .result .bufferOverflow := rfl
@[simp] theorem State.raise_bufferOverflow_params (s : State) : (s.raise .bufferOverflow).params = s.params := rfl
@[simp] theorem State.raise_bufferOverflow_freeCtr (s : State) : (s.raise .bufferOverflow).freeCtr = s.freeCtr + 1 := rfl

/-! `resetBlock` (R38, R240). -/

@[simp] theorem State.resetBlock_expected (s : State) : s.resetBlock.expected = 0 := rfl
@[simp] theorem State.resetBlock_abuf (s : State) : s.resetBlock.abuf = [] := rfl
@[simp] theorem State.resetBlock_wptr (s : State) : s.resetBlock.wptr = 0 := rfl
@[simp] theorem State.resetBlock_session (s : State) : s.resetBlock.session = .idle := rfl
@[simp] theorem State.resetBlock_rate (s : State) : s.resetBlock.rate = 0 := rfl
@[simp] theorem State.resetBlock_gsState (s : State) : s.resetBlock.gsState = .idle := rfl
@[simp] theorem State.resetBlock_zrem (s : State) : s.resetBlock.zrem = 0 := rfl
@[simp] theorem State.resetBlock_pbuf (s : State) : s.resetBlock.pbuf = Config.freePbuf s.freeCtr := rfl
@[simp] theorem State.resetBlock_plen (s : State) : s.resetBlock.plen = 0 := rfl
@[simp] theorem State.resetBlock_dbuf (s : State) : s.resetBlock.dbuf = [] := rfl
@[simp] theorem State.resetBlock_samples (s : State) : s.resetBlock.samples = [] := rfl
@[simp] theorem State.resetBlock_ctlOut (s : State) : s.resetBlock.ctlOut = [] := rfl
@[simp] theorem State.resetBlock_fault (s : State) : s.resetBlock.fault = false := rfl
@[simp] theorem State.resetBlock_held (s : State) : s.resetBlock.held = [] := rfl
@[simp] theorem State.resetBlock_input (s : State) : s.resetBlock.input = s.input := rfl
@[simp] theorem State.resetBlock_ret (s : State) : s.resetBlock.ret = .result (.ok none) := rfl
@[simp] theorem State.resetBlock_params (s : State) : s.resetBlock.params = s.params := rfl
@[simp] theorem State.resetBlock_freeCtr (s : State) : s.resetBlock.freeCtr = s.freeCtr + 1 := rfl

/-! `arrive`: only `held` and `input` change. -/

@[simp] theorem State.arrive_expected (s : State) : s.arrive.expected = s.expected := by
  unfold State.arrive; split <;> rfl
@[simp] theorem State.arrive_abuf (s : State) : s.arrive.abuf = s.abuf := by
  unfold State.arrive; split <;> rfl
@[simp] theorem State.arrive_wptr (s : State) : s.arrive.wptr = s.wptr := by
  unfold State.arrive; split <;> rfl
@[simp] theorem State.arrive_session (s : State) : s.arrive.session = s.session := by
  unfold State.arrive; split <;> rfl
@[simp] theorem State.arrive_rate (s : State) : s.arrive.rate = s.rate := by
  unfold State.arrive; split <;> rfl
@[simp] theorem State.arrive_gsState (s : State) : s.arrive.gsState = s.gsState := by
  unfold State.arrive; split <;> rfl
@[simp] theorem State.arrive_zrem (s : State) : s.arrive.zrem = s.zrem := by
  unfold State.arrive; split <;> rfl
@[simp] theorem State.arrive_pbuf (s : State) : s.arrive.pbuf = s.pbuf := by
  unfold State.arrive; split <;> rfl
@[simp] theorem State.arrive_plen (s : State) : s.arrive.plen = s.plen := by
  unfold State.arrive; split <;> rfl
@[simp] theorem State.arrive_dbuf (s : State) : s.arrive.dbuf = s.dbuf := by
  unfold State.arrive; split <;> rfl
@[simp] theorem State.arrive_samples (s : State) : s.arrive.samples = s.samples := by
  unfold State.arrive; split <;> rfl
@[simp] theorem State.arrive_ctlOut (s : State) : s.arrive.ctlOut = s.ctlOut := by
  unfold State.arrive; split <;> rfl
@[simp] theorem State.arrive_fault (s : State) : s.arrive.fault = s.fault := by
  unfold State.arrive; split <;> rfl
@[simp] theorem State.arrive_ret (s : State) : s.arrive.ret = s.ret := by
  unfold State.arrive; split <;> rfl
@[simp] theorem State.arrive_params (s : State) : s.arrive.params = s.params := by
  unfold State.arrive; split <;> rfl
@[simp] theorem State.arrive_freeCtr (s : State) : s.arrive.freeCtr = s.freeCtr := by
  unfold State.arrive; split <;> rfl

theorem State.arrive_held (s : State) : s.arrive.held = s.held ++ s.input.headD [] := by
  unfold State.arrive; split <;> rename_i h <;> simp [h]

theorem State.arrive_input (s : State) : s.arrive.input = s.input.tail := by
  unfold State.arrive; split <;> rename_i h <;> simp [h]

/-! The state after reset. -/

/-- The cells of ABUF are in canonical form after reset. -/
theorem State.reset_abuf_wf : State.reset.abuf.wf = true := rfl

end Sys2Proof.Machine
end

