-- ==== Sys2Proof/Laws/Ops.lean ====
section
/-! SUPPORT. For each shared operation, once, all it can do: to the bytes of ABUF, to the capacity, to the verdict. -/

namespace Sys2Proof.Machine

/-! The bytes of ABUF. -/

@[simp] theorem State.length_abufBytes (s : State) : s.abufBytes.length = s.wptr := by simp [State.abufBytes]

/-- `Append(v)` puts `v` behind the bytes of ABUF (R14). -/
@[simp] theorem State.abufBytes_append (s : State) (v : List Byte) : (s.append v).abufBytes = s.abufBytes ++ v := by
  simp only [State.abufBytes, State.append_abuf, State.append_wptr, Memory.read_add, Nat.zero_add,
    Memory.read_write_below, Memory.read_write_same]

/-- `Append(zeros(n))` puts `n` zero bytes behind the bytes of ABUF (R160). -/
@[simp] theorem State.abufBytes_appendZeros (s : State) (n : Nat) :
    (s.appendZeros n).abufBytes = s.abufBytes ++ List.replicate n 0 := by
  simp only [State.abufBytes, State.appendZeros_abuf, State.appendZeros_wptr, Memory.read_add, Nat.zero_add,
    Memory.read_fillZero_below, Memory.read_fillZero_same]

/-- Operations that leave ABUF and WPTR alone leave its bytes alone. -/
theorem State.abufBytes_congr {s t : State} (ha : t.abuf = s.abuf) (hw : t.wptr = s.wptr) :
    t.abufBytes = s.abufBytes := by rw [State.abufBytes, State.abufBytes, ha, hw]

/-- REASM puts the zeros and then the payload behind the bytes of ABUF (R160, R161). -/
@[simp] theorem State.abufBytes_reassemble (s : State) (p : List Byte) (v : Verdict) :
    (s.reassemble p v).abufBytes = s.abufBytes ++ List.replicate v.fillBytes 0 ++ p := by
  simp [State.reassemble]

/-- GS.ZFILL puts one zero block behind the bytes of ABUF (R168). -/
@[simp] theorem State.abufBytes_zeroFillBlock (s : State) :
    s.zeroFillBlock.abufBytes = s.abufBytes ++ List.replicate 256 0 := by
  exact (State.abufBytes_congr (s := s.appendZeros 256) rfl rfl).trans (s.abufBytes_appendZeros 256)

/-- GS.PAYLOAD puts the valid bytes of PBUF behind the bytes of ABUF (R169). -/
@[simp] theorem State.abufBytes_flushPayload (s : State) :
    s.flushPayload.abufBytes = s.abufBytes ++ s.pbufBytes := by
  exact (State.abufBytes_congr (s := s.append s.pbufBytes) rfl rfl).trans (s.abufBytes_append _)

/-! PBUF. -/

/-- PBUF after a load: the payload, then what PBUF held behind it (R167). -/
theorem toList_loadPbuf (old : Vector Byte 256) (p : List Byte) :
    (loadPbuf old p).toList = (p ++ old.toList.drop p.length).take 256 := by
  simp [loadPbuf, Vector.toList]

theorem payloadOk_iff (p : List Byte) : payloadOk p = true ↔ p.length ≤ 256 := decide_eq_true_iff

/-- What GS.LOAD stores is what GS.PAYLOAD will append (R167, R169). -/
theorem State.pbufBytes_loadSynthesizer (s : State) (p : List Byte) (v : Verdict) (h : payloadOk p = true) :
    (s.loadSynthesizer p v).pbufBytes = p := by
  rw [payloadOk_iff] at h
  have hl : p.length % 512 = p.length := Nat.mod_eq_of_lt (by omega)
  simp [State.pbufBytes, toList_loadPbuf, hl, List.take_take, Nat.min_eq_left h]

theorem State.length_pbufBytes (s : State) : s.pbufBytes.length = min s.plen.toNat 256 := by
  simp [State.pbufBytes]

/-! Lengths of datagrams. -/

theorem shortLength_iff (d : List Byte) : shortLength d = true ↔ d.length < 3 := decide_eq_true_iff

theorem oversizeLength_iff (d : List Byte) : oversizeLength d = true ↔ 259 < d.length := decide_eq_true_iff

theorem validLength_iff (d : List Byte) : validLength d = true ↔ 3 ≤ d.length ∧ d.length ≤ 259 := by
  rw [validLength, Bool.and_eq_true, Bool.not_eq_true', Bool.not_eq_true', ← Bool.not_eq_true, ← Bool.not_eq_true,
    shortLength_iff, oversizeLength_iff]
  omega

/-- The payload of a datagram of legal length fits in PBUF (R99). -/
theorem payloadOk_payloadOf {d : List Byte} (h : validLength d = true) : payloadOk (payloadOf d) = true := by
  rw [validLength_iff] at h
  rw [payloadOk_iff, payloadOf, Config.headerBytes, List.length_drop]
  omega

theorem rateCodeOk_iff (rc : Byte) : rateCodeOk rc = true ↔ rc.toNat ≤ 3 := decide_eq_true_iff

/-! Verdicts. -/

@[simp] theorem gaplen_self (e : Counter) : gaplen e e = 0 := by simp [gaplen]

theorem gaplen_eq_zero_iff (r e : Counter) : gaplen r e = 0#16 ↔ r = e := by
  unfold gaplen
  constructor
  · intro h; bv_omega
  · intro h; subst h; simp

/-- The number of lost datagrams a verdict of CLASSIFY stands for is GAPLEN, in both arms (R147). -/
@[simp] theorem State.count_verdictOn (s : State) (r : Counter) : (s.verdictOn r).count = gaplen r s.expected := by
  unfold State.verdictOn
  split
  · next h => subst h; simp [Verdict.count]
  · rfl

/-- CLASSIFY never returns Gap(0) (R146). -/
theorem State.verdictOk_verdictOn (s : State) (r : Counter) : verdictOk (s.verdictOn r) = true := by
  unfold State.verdictOn
  split
  · rfl
  · next h => exact bne_iff_ne.mpr fun hz => h ((gaplen_eq_zero_iff _ _).mp hz)

theorem fillBytes_eq (v : Verdict) : v.fillBytes = 256 * v.count.toNat := rfl

theorem unitBytes_eq (p : List Byte) (v : Verdict) : unitBytes p v = 256 * v.count.toNat + p.length := rfl

/-! Capacity (R217). -/

/-- With the default parameters everything fits. -/
theorem State.fits_unbounded (s : State) (n : Nat) (h : s.params = Config.defaultParams) : s.fits n = true := by
  simp [State.fits, h, Config.defaultParams]

/-- The capacity test depends on WPTR and the parameters only. -/
theorem State.fits_congr {s t : State} {n m : Nat} (hp : t.params = s.params) (hw : t.wptr + m = s.wptr + n) :
    t.fits m = s.fits n := by simp [State.fits, hp, hw]

/-- What fits leaves room for less. -/
theorem State.fits_mono {s : State} {n m : Nat} (h : s.fits n = true) (hm : m ≤ n) : s.fits m = true := by
  unfold State.fits at *
  rw [Bool.and_eq_true] at *
  obtain ⟨h1, h2⟩ := h
  constructor
  · split at h1 <;> simp_all; omega
  · split at h2 <;> simp_all; omega

end Sys2Proof.Machine
end

