-- ==== Sys2Proof/Laws/Exec.lean ====
section
/-! SUPPORT. One inversion lemma per operation that has more than one outcome: if it answers a next state, then one of these
cases holds. -/

namespace Sys2Proof.Machine

theorem next_inj {s t : State} (h : (Host.Outcome.next s : Out) = .next t) : s = t := by injection h

/-- START: held, rejected code, wrong state, or accepted (R181, R221). -/
theorem execStart_cases {rc : Byte} {s t : State} (h : execStart rc s = .next t) :
    (s.mustHold = true ∧ t = s.hold (encode (.start rc))) ∨
    (s.mustHold = false ∧ rateCodeOk rc = false ∧ t = s.withRet (.result (.invalidConfiguration rc))) ∨
    (s.mustHold = false ∧ rateCodeOk rc = true ∧ s.startable = false ∧ t = s.withRet (.result .badState)) ∨
    (s.mustHold = false ∧ rateCodeOk rc = true ∧ s.startable = true ∧ t = (s.openSession rc).returnOk) := by
  unfold execStart at h
  split at h
  · next h1 => exact .inl ⟨h1, (next_inj h).symm⟩
  · next h1 =>
    split at h
    · next h2 => exact .inr (.inl ⟨by simpa using h1, by simpa using h2, (next_inj h).symm⟩)
    · next h2 =>
      split at h
      · next h3 =>
        exact .inr (.inr (.inl ⟨by simpa using h1, by simpa using h2, by simpa using h3, (next_inj h).symm⟩))
      · next h3 =>
        exact .inr (.inr (.inr ⟨by simpa using h1, by simpa using h2, by simpa using h3, (next_inj h).symm⟩))

/-- DGRAM: held, wrong state, or accepted (R182, R221). -/
theorem execDgram_cases {d : List Byte} {s t : State} (h : execDgram d s = .next t) :
    (s.mustHold = true ∧ t = s.hold (encode (.dgram d))) ∨
    (s.mustHold = false ∧ s.sessionOpen = false ∧ t = s.withRet (.result .badState)) ∨
    (s.mustHold = false ∧ s.sessionOpen = true ∧ t = s.acceptDatagram d) := by
  unfold execDgram at h
  split at h
  · next h1 => exact .inl ⟨h1, (next_inj h).symm⟩
  · next h1 =>
    split at h
    · next h2 => exact .inr (.inl ⟨by simpa using h1, by simpa using h2, (next_inj h).symm⟩)
    · next h2 => exact .inr (.inr ⟨by simpa using h1, by simpa using h2, (next_inj h).symm⟩)

/-- TIMEOUT: held, wrong state, or the stop sequence (R186). -/
theorem execTimeout_cases {s t : State} (h : execTimeout s = .next t) :
    (s.mustHold = true ∧ t = s.hold (encode .timeout)) ∨
    (s.mustHold = false ∧ s.sessionOpen = false ∧ t = s.withRet (.result .badState)) ∨
    (s.mustHold = false ∧ s.sessionOpen = true ∧ t = s.stopSequence) := by
  unfold execTimeout at h
  split at h
  · next h1 => exact .inl ⟨h1, (next_inj h).symm⟩
  · next h1 =>
    split at h
    · next h2 => exact .inr (.inl ⟨by simpa using h1, by simpa using h2, (next_inj h).symm⟩)
    · next h2 => exact .inr (.inr ⟨by simpa using h1, by simpa using h2, (next_inj h).symm⟩)

/-- CANCEL: held, wrong state, or the stop sequence (R187). -/
theorem execCancel_cases {s t : State} (h : execCancel s = .next t) :
    (s.mustHold = true ∧ t = s.hold (encode .cancel)) ∨
    (s.mustHold = false ∧ s.sessionOpen = false ∧ t = s.withRet (.result .badState)) ∨
    (s.mustHold = false ∧ s.sessionOpen = true ∧ t = s.stopSequence) := by
  unfold execCancel at h
  split at h
  · next h1 => exact .inl ⟨h1, (next_inj h).symm⟩
  · next h1 =>
    split at h
    · next h2 => exact .inr (.inl ⟨by simpa using h1, by simpa using h2, (next_inj h).symm⟩)
    · next h2 => exact .inr (.inr ⟨by simpa using h1, by simpa using h2, (next_inj h).symm⟩)

/-- REASM: appended, or an overflow (R160). -/
theorem execReasm_cases {p : List Byte} {v : Verdict} {s t : State} (h : execReasm p v s = .next t) :
    payloadOk p = true ∧ verdictOk v = true ∧
    ((s.fits (unitBytes p v) = true ∧ t = s.reassemble p v) ∨
     (s.fits (unitBytes p v) = false ∧ t = s.raise .bufferOverflow)) := by
  unfold execReasm at h
  split at h
  · next h1 =>
    rw [Bool.and_eq_true] at h1
    refine ⟨h1.1, h1.2, ?_⟩
    split at h
    · next h2 => exact .inl ⟨h2, (next_inj h).symm⟩
    · next h2 => exact .inr ⟨by simpa using h2, (next_inj h).symm⟩
  · cases h

/-- REC.PAYLOAD: appended, or an overflow (R163). -/
theorem execRecPayload_cases {p : List Byte} {s t : State} (h : execRecPayload p s = .next t) :
    payloadOk p = true ∧
    ((s.fits p.length = true ∧ t = s.append p) ∨ (s.fits p.length = false ∧ t = s.raise .bufferOverflow)) := by
  unfold execRecPayload at h
  split at h
  · next h1 =>
    refine ⟨h1, ?_⟩
    split at h
    · next h2 => exact .inl ⟨h2, (next_inj h).symm⟩
    · next h2 => exact .inr ⟨by simpa using h2, (next_inj h).symm⟩
  · cases h

/-- REC.GAP: appended, or an overflow (R164). -/
theorem execRecGap_cases {n : BitVec 16} {s t : State} (h : execRecGap n s = .next t) :
    (s.fits (256 * n.toNat) = true ∧ t = s.appendZeros (256 * n.toNat)) ∨
    (s.fits (256 * n.toNat) = false ∧ t = s.raise .bufferOverflow) := by
  unfold execRecGap at h
  split at h
  · next h2 => exact .inl ⟨h2, (next_inj h).symm⟩
  · next h2 => exact .inr ⟨by simpa [Config.blockBytes] using h2, (next_inj h).symm⟩

/-- GS.LOAD: loaded, or an overflow, and only from GS_IDLE (R167). -/
theorem execGsLoad_cases {p : List Byte} {v : Verdict} {s t : State} (h : execGsLoad p v s = .next t) :
    payloadOk p = true ∧ verdictOk v = true ∧ s.gsState = .idle ∧
    ((s.fits (unitBytes p v) = true ∧ t = s.loadSynthesizer p v) ∨
     (s.fits (unitBytes p v) = false ∧ t = s.raise .bufferOverflow)) := by
  unfold execGsLoad at h
  split at h
  · next h1 =>
    rw [Bool.and_eq_true] at h1
    split at h
    · cases h
    · next h2 =>
      refine ⟨h1.1, h1.2, by simpa [State.busy] using h2, ?_⟩
      split at h
      · next h3 => exact .inl ⟨h3, (next_inj h).symm⟩
      · next h3 => exact .inr ⟨by simpa using h3, (next_inj h).symm⟩
  · cases h

/-- GS.ZFILL runs only in GS_ZFILL with a block left (R168). -/
theorem execGsZfill_cases {s t : State} (h : execGsZfill s = .next t) :
    s.gsState = .zfill ∧ s.zrem ≠ 0 ∧ t = s.zeroFillBlock := by
  unfold execGsZfill at h
  split at h
  · next h1 => exact ⟨h1.1, h1.2, (next_inj h).symm⟩
  · cases h

/-- GS.PAYLOAD runs only in GS_PAYLOAD (R169). -/
theorem execGsPayload_cases {s t : State} (h : execGsPayload s = .next t) :
    s.gsState = .payload ∧ t = s.flushPayload := by
  unfold execGsPayload at h
  split at h
  · next h1 => exact ⟨h1, (next_inj h).symm⟩
  · cases h

/-- DGRAM.VALID: loaded, or an overflow (R185). -/
theorem State.receiveValid_cases (s : State) (d : List Byte) :
    ((s.classified (receivedOf d)).fits (unitBytes (payloadOf d) (s.verdictOn (receivedOf d))) = true ∧
      s.receiveValid d = ((s.classified (receivedOf d)).loadSynthesizer (payloadOf d)
        (s.verdictOn (receivedOf d))).withRet (.result (.ok (some (s.verdictOn (receivedOf d)))))) ∨
    ((s.classified (receivedOf d)).fits (unitBytes (payloadOf d) (s.verdictOn (receivedOf d))) = false ∧
      s.receiveValid d = (s.classified (receivedOf d)).raise .bufferOverflow) := by
  by_cases h : (s.classified (receivedOf d)).fits (unitBytes (payloadOf d) (s.verdictOn (receivedOf d))) = true
  · exact .inl ⟨h, if_pos h⟩
  · exact .inr ⟨by simpa using h, if_neg h⟩

/-- An accepted datagram goes to the arm its length selects (R182). -/
theorem State.acceptDatagram_cases (s : State) (d : List Byte) :
    (shortLength d = true ∧ s.acceptDatagram d =
      ((s.enterReceiving.loadDbuf d).withRet (.result (.shortDatagram d.length))).expireDbuf) ∨
    (oversizeLength d = true ∧ s.acceptDatagram d =
      ((s.enterReceiving.loadDbuf d).withRet (.result (.oversizeDatagram d.length))).expireDbuf) ∨
    (validLength d = true ∧ s.acceptDatagram d =
      ((s.enterReceiving.loadDbuf d).receiveValid d).expireDbuf) := by
  unfold State.acceptDatagram State.dispatchDatagram
  split
  · next h => exact .inl ⟨h, rfl⟩
  · next h =>
    split
    · next h2 => exact .inr (.inl ⟨h2, rfl⟩)
    · next h2 =>
      have h2 : oversizeLength d = false := by simpa using h2
      refine .inr (.inr ⟨?_, by rw [State.loadDbuf_dbuf _ _ h2]⟩)
      simpa [validLength, h2] using h

/-- Outcomes of the operations that have one guard. -/
theorem execParse_cases {d : List Byte} {s t : State} (h : execParse d s = .next t) :
    validLength d = true ∧ t = s.withRet (.parsed (typeOf d) (receivedOf d) (payloadOf d)) := by
  unfold execParse at h
  split at h
  · next h1 => exact ⟨h1, (next_inj h).symm⟩
  · cases h

theorem execClassifyInorder_cases {r : Counter} {s t : State} (h : execClassifyInorder r s = .next t) :
    r = s.expected ∧ t = s.advanceExpected.withRet (.verdict .inOrder) := by
  unfold execClassifyInorder at h
  split at h
  · next h1 => exact ⟨h1, (next_inj h).symm⟩
  · cases h

theorem execClassifyGap_cases {r : Counter} {s t : State} (h : execClassifyGap r s = .next t) :
    r ≠ s.expected ∧ t = (s.resynchronise r).withRet (.verdict (.gap (gaplen r s.expected))) := by
  unfold execClassifyGap at h
  split at h
  · cases h
  · next h1 => exact ⟨h1, (next_inj h).symm⟩

theorem execDgramShort_cases {d : List Byte} {s t : State} (h : execDgramShort d s = .next t) :
    shortLength d = true ∧ t = s.withRet (.result (.shortDatagram d.length)) := by
  unfold execDgramShort at h
  split at h
  · next h1 => exact ⟨h1, (next_inj h).symm⟩
  · cases h

theorem execDgramOversize_cases {d : List Byte} {s t : State} (h : execDgramOversize d s = .next t) :
    oversizeLength d = true ∧ t = s.withRet (.result (.oversizeDatagram d.length)) := by
  unfold execDgramOversize at h
  split at h
  · next h1 => exact ⟨h1, (next_inj h).symm⟩
  · cases h

theorem execDgramValid_cases {d : List Byte} {s t : State} (h : execDgramValid d s = .next t) :
    validLength d = true ∧ s.gsState = .idle ∧ t = s.receiveValid d := by
  unfold execDgramValid at h
  split at h
  · next h1 =>
    rw [Bool.and_eq_true] at h1
    exact ⟨h1.1, by simpa [State.busy] using h1.2, (next_inj h).symm⟩
  · cases h

theorem execStopseq_cases {s t : State} (h : execStopseq s = .next t) :
    s.sessionOpen = true ∧ s.gsState = .idle ∧ t = s.stopSequence := by
  unfold execStopseq at h
  split at h
  · next h1 =>
    rw [Bool.and_eq_true] at h1
    exact ⟨h1.1, by simpa [State.busy] using h1.2, (next_inj h).symm⟩
  · cases h

/-! The step. -/

@[simp] theorem flatten_putBack (later : List Packet) (input : List (List Packet)) :
    (putBack later input).flatten = later ++ input.flatten := by
  cases later with
  | nil => rfl
  | cons p ps => cases input <;> simp [putBack]

/-- Where a RESET stands in the queue: what came before it is held, what came after it arrives later (R222). -/
theorem State.atReset_of_held {s : State} {before after : List Packet} {r : Packet}
    (h : s.held = before ++ r :: after) (hb : ∀ p ∈ before, p.isReset = false) (hr : r.isReset = true) :
    s.resetPending = true ∧ s.atReset = { s with held := before, input := putBack after s.input } := by
  have ht : ∀ l : List Packet, (∀ p ∈ l, p.isReset = false) →
      (l ++ r :: after).takeWhile (fun p => !p.isReset) = l ∧
      (l ++ r :: after).dropWhile (fun p => !p.isReset) = r :: after := by
    intro l
    induction l with
    | nil => simp [hr]
    | cons p l ih =>
      intro hl
      obtain ⟨h1, h2⟩ := ih fun q hq => hl q (List.mem_cons_of_mem _ hq)
      simp [hl p (by simp), h1, h2]
  obtain ⟨h1, h2⟩ := ht before hb
  constructor
  · simp [State.resetPending, h, hr]
  · rw [State.atReset, h, h1, h2, List.tail_cons]

/-- What a step that answers a next state has done, once its batch has arrived (R10, R171, R222, R232). -/
theorem step_cases {s t : State} (h : step s = .next t) :
    (s.arrive.resetPending = true ∧ t = s.arrive.atReset.resetBlock) ∨
    (s.arrive.resetPending = false ∧ s.fault = false ∧ s.gsState = .zfill ∧ execGsZfill s.arrive = .next t) ∨
    (s.arrive.resetPending = false ∧ s.fault = false ∧ s.gsState = .payload ∧ execGsPayload s.arrive = .next t) ∨
    (s.arrive.resetPending = false ∧ (s.fault = true ∨ s.gsState = .idle) ∧
      ((s.arrive.held = [] ∧ s.fault = true ∧ t = s.arrive.scramble) ∨
       (s.arrive.held = [] ∧ s.fault = false ∧ t = s.arrive) ∨
       (∃ p rest i, s.arrive.held = p :: rest ∧ decode p = .ok i ∧ exec i { s.arrive with held := rest } = .next t) ∨
       (∃ p rest c, s.arrive.held = p :: rest ∧ decode p = .error (.reservedEventCode c) ∧
         t = ({ s.arrive with held := rest } : State).withRet (.result .badState)))) := by
  have taken : ∀ u : State, u.fault = s.fault →
      (match u.takeHeld with
        | .run i v => exec i v
        | .settle v => .next v
        | .stop r => .refused (.undecodable r) : Out) = .next t →
      ((u.held = [] ∧ s.fault = true ∧ t = u.scramble) ∨ (u.held = [] ∧ s.fault = false ∧ t = u) ∨
       (∃ p rest i, u.held = p :: rest ∧ decode p = .ok i ∧ exec i { u with held := rest } = .next t) ∨
       (∃ p rest c, u.held = p :: rest ∧ decode p = .error (.reservedEventCode c) ∧
         t = ({ u with held := rest } : State).withRet (.result .badState))) := by
    intro u hu hk
    unfold State.takeHeld at hk
    cases hh : u.held with
    | nil =>
      rw [hh] at hk
      by_cases hf : u.fault
      · simp only [hf, if_true] at hk
        exact .inl ⟨rfl, by rw [← hu]; exact hf, (next_inj hk).symm⟩
      · simp only [hf] at hk
        exact .inr (.inl ⟨rfl, by rw [← hu]; simpa using hf, (next_inj hk).symm⟩)
    | cons p rest =>
      rw [hh] at hk
      cases hd : decode p with
      | ok i =>
        simp only [hd] at hk
        exact .inr (.inr (.inl ⟨p, rest, i, rfl, hd, hk⟩))
      | error r =>
        cases r with
        | reservedEventCode c =>
          simp only [hd] at hk
          exact .inr (.inr (.inr ⟨p, rest, c, rfl, hd, (next_inj hk).symm⟩))
        | illegalControl => simp only [hd] at hk; cases hk
        | illegalRecord => simp only [hd] at hk; cases hk
        | unknownSelector n => simp only [hd] at hk; cases hk
        | badArguments n => simp only [hd] at hk; cases hk
  unfold step State.pick at h
  by_cases hr : s.arrive.resetPending
  · simp only [hr, if_true] at h
    exact .inl ⟨hr, (next_inj h).symm⟩
  · have hr' : s.arrive.resetPending = false := by simpa using hr
    by_cases hf : s.fault
    · simp only [hr', State.arrive_fault, hf, if_true] at h
      exact .inr (.inr (.inr ⟨hr', .inl hf, taken s.arrive (by simp) h⟩))
    · have hf' : s.fault = false := by simpa using hf
      simp only [hr', State.arrive_fault, hf', State.arrive_gsState] at h
      cases hg : s.gsState with
      | zfill =>
        simp only [hg] at h
        exact .inr (.inl ⟨hr', hf', rfl, h⟩)
      | payload =>
        simp only [hg] at h
        exact .inr (.inr (.inl ⟨hr', hf', rfl, h⟩))
      | idle =>
        simp only [hg] at h
        exact .inr (.inr (.inr ⟨hr', .inr rfl, taken s.arrive (by simp) h⟩))

end Sys2Proof.Machine
end

