-- ==== Sys2Proof/Laws/PerInstr.lean ====
section
/-! SUPPORT. Families of facts with one lemma per constructor of `Instr`. -/

namespace Sys2Proof.Laws

/-- An operation is written in format F-EVT exactly when it is one of the five input events (R90, R96). -/
def EventFormat.Statement (i : Instr) : Prop := (encode i).isEvent = i.isInputEvent

theorem EventFormat.reset : EventFormat.Statement .reset := rfl
theorem EventFormat.start (rc : Byte) : EventFormat.Statement (.start rc) := rfl
theorem EventFormat.dgram (d : List Byte) : EventFormat.Statement (.dgram d) := rfl
theorem EventFormat.dgramShort (d : List Byte) : EventFormat.Statement (.dgramShort d) := rfl
theorem EventFormat.dgramOversize (d : List Byte) : EventFormat.Statement (.dgramOversize d) := rfl
theorem EventFormat.dgramValid (d : List Byte) : EventFormat.Statement (.dgramValid d) := rfl
theorem EventFormat.timeout : EventFormat.Statement .timeout := rfl
theorem EventFormat.cancel : EventFormat.Statement .cancel := rfl
theorem EventFormat.stopseq : EventFormat.Statement .stopseq := rfl
theorem EventFormat.ctlStart (rc : RateCode) : EventFormat.Statement (.ctlStart rc) := rfl
theorem EventFormat.ctlStop : EventFormat.Statement .ctlStop := rfl
theorem EventFormat.ratehz (c : RateCode) : EventFormat.Statement (.ratehz c) := rfl
theorem EventFormat.tstamp (i : Nat) : EventFormat.Statement (.tstamp i) := rfl
theorem EventFormat.parse (d : List Byte) : EventFormat.Statement (.parse d) := rfl
theorem EventFormat.adv (x : Counter) : EventFormat.Statement (.adv x) := rfl
theorem EventFormat.gaplen (r e : Counter) : EventFormat.Statement (.gaplen r e) := rfl
theorem EventFormat.classify (r : Counter) : EventFormat.Statement (.classify r) := rfl
theorem EventFormat.classifyInorder (r : Counter) : EventFormat.Statement (.classifyInorder r) := rfl
theorem EventFormat.classifyGap (r : Counter) : EventFormat.Statement (.classifyGap r) := rfl
theorem EventFormat.reasm (p : List Byte) (v : Verdict) : EventFormat.Statement (.reasm p v) := rfl
theorem EventFormat.recPayload (p : List Byte) : EventFormat.Statement (.recPayload p) := rfl
theorem EventFormat.recGap (n : BitVec 16) : EventFormat.Statement (.recGap n) := rfl
theorem EventFormat.gsLoad (p : List Byte) (v : Verdict) : EventFormat.Statement (.gsLoad p v) := rfl
theorem EventFormat.gsZfill : EventFormat.Statement .gsZfill := rfl
theorem EventFormat.gsPayload : EventFormat.Statement .gsPayload := rfl
theorem EventFormat.decg (b0 b1 b2 b3 : Byte) : EventFormat.Statement (.decg b0 b1 b2 b3) := rfl
theorem EventFormat.decb (buf : List Byte) : EventFormat.Statement (.decb buf) := rfl

end Sys2Proof.Laws
end

