-- ==== Sys2Proof/Tests/Slice0.lean ====
section
/-! SUPPORT. Small checks: ill-formed operations, words of the spec's formats, one step of each operation on values from
spec/95_test_vectors.md (V1 to V8, S1 to S8, P1 to P9), and for each statement with hypotheses a case that meets them. -/

namespace Sys2Proof.Machine

/-! Ill-formed operations, one per check of WellFormed, with the nearest legal one. -/

theorem test_wf_short : WellFormed (.dgramShort [0, 0, 0]) = false ∧ WellFormed (.dgramShort [0, 0]) = true := by decide

theorem test_wf_oversize : WellFormed (.dgramOversize (List.replicate 259 0)) = false ∧
    WellFormed (.dgramOversize (List.replicate 260 0)) = true := by decide +kernel

theorem test_wf_valid : WellFormed (.dgramValid [0, 0]) = false ∧
    WellFormed (.dgramValid (List.replicate 260 0)) = false ∧
    WellFormed (.dgramValid (List.replicate 259 0)) = true := by decide +kernel

theorem test_wf_parse : WellFormed (.parse []) = false ∧ WellFormed (.parse (List.replicate 260 0)) = false ∧
    WellFormed (.parse [0, 0, 0]) = true := by decide +kernel

theorem test_wf_reasm : WellFormed (.reasm [] (.gap 0)) = false ∧
    WellFormed (.reasm (List.replicate 257 0) .inOrder) = false ∧
    WellFormed (.reasm (List.replicate 256 0) (.gap 65535)) = true := by decide +kernel

theorem test_wf_recPayload : WellFormed (.recPayload (List.replicate 257 0)) = false ∧
    WellFormed (.recPayload (List.replicate 256 0)) = true := by decide +kernel

theorem test_wf_gsLoad : WellFormed (.gsLoad [] (.gap 0)) = false ∧
    WellFormed (.gsLoad (List.replicate 257 0) .inOrder) = false ∧
    WellFormed (.gsLoad [] (.gap 1)) = true := by decide +kernel

/-! Words of the spec's formats (R91 to R98, R101; V8). -/

/-- F-EVT, the pattern of each code (R96). -/
theorem test_decode_events :
    decode (.evt 0b000#3 0 []) = .ok .reset ∧ decode (.evt 0b001#3 0b11111111#8 []) = .ok (.start 255) ∧
    decode (.evt 0b010#3 0 [0x07, 0x01]) = .ok (.dgram [0x07, 0x01]) ∧
    decode (.evt 0b011#3 0 []) = .ok .timeout ∧ decode (.evt 0b100#3 0 []) = .ok .cancel := by
  exact ⟨rfl, rfl, rfl, rfl, rfl⟩

/-- The reserved codes (R107). -/
theorem test_decode_reserved : ∀ rc : Byte, decode (.evt 0b101#3 rc []) = .error (.reservedEventCode 5) ∧
    decode (.evt 0b110#3 rc []) = .error (.reservedEventCode 6) ∧
    decode (.evt 0b111#3 rc []) = .error (.reservedEventCode 7) := fun _ => ⟨rfl, rfl, rfl⟩

/-- The four start commands, the stop command, and messages that are none (R92, R93, R104). -/
theorem test_decode_control :
    decode (.ctl [0b00000000#8, 0b00000000#8]) = .ok (.ctlStart 0) ∧
    decode (.ctl [0b00000000#8, 0b00000001#8]) = .ok (.ctlStart 1) ∧
    decode (.ctl [0b00000000#8, 0b00000010#8]) = .ok (.ctlStart 2) ∧
    decode (.ctl [0b00000000#8, 0b00000011#8]) = .ok (.ctlStart 3) ∧
    decode (.ctl [0b00000001#8]) = .ok .ctlStop ∧
    decode (.ctl [0x00, 0x04]) = .error .illegalControl ∧ decode (.ctl [0x00]) = .error .illegalControl ∧
    decode (.ctl [0x01, 0x00]) = .error .illegalControl ∧ decode (.ctl []) = .error .illegalControl := by
  exact ⟨rfl, rfl, rfl, rfl, rfl, rfl, rfl, rfl, rfl⟩

/-- F-REC: heads 0x00004 and 0x10001 of V5, the empty payload, Gap(0), and heads the block never produces (R98, R108). -/
theorem test_decode_records :
    decode (.record 0b00000000000000100#17 [0x34, 0x12, 0xAB, 0x00]) = .ok (.recPayload [0x34, 0x12, 0xAB, 0x00]) ∧
    decode (.record 0b10000000000000001#17 []) = .ok (.recGap 1) ∧
    decode (.record 0b00000000000000000#17 []) = .ok (.recPayload []) ∧
    decode (.record 0b10000000000000000#17 []) = .ok (.recGap 0) ∧
    decode (.record 0b00000000000000100#17 [0x34]) = .error .illegalRecord ∧
    decode (.record 0b10000000000000001#17 [0x34]) = .error .illegalRecord ∧
    decode (.record 257#17 (List.replicate 257 0)) = .error .illegalRecord := by decide +kernel

/-- F-VERDICT: 0x00000, 0x10003, 0x1FFFF, and the two kinds of pattern that stand for nothing (R97, V4). -/
theorem test_decode_verdicts : decodeVerdict 0x00000#17 = some .inOrder ∧ decodeVerdict 0x10003#17 = some (.gap 3) ∧
    decodeVerdict 0x1FFFF#17 = some (.gap 65535) ∧ decodeVerdict 0x10000#17 = none ∧
    decodeVerdict 0x00001#17 = none := by decide

/-- F-DG: the arm by the length 2, 3, 259, 260; the bytes of `DG 165 3` (R91, R100, V8). -/
theorem test_decode_datagrams :
    decode (.dg [0x07, 0x01]) = .ok (.dgramShort [0x07, 0x01]) ∧
    decode (.dg [0b10100101#8, 0b00000011#8, 0b00000000#8]) = .ok (.dgramValid [0xA5, 0x03, 0x00]) ∧
    decode (.dg (List.replicate 259 0)) = .ok (.dgramValid (List.replicate 259 0)) ∧
    decode (.dg (List.replicate 260 0)) = .ok (.dgramOversize (List.replicate 260 0)) ∧
    encodeDatagram 165 3 [0xEF, 0xCD, 0xAB, 0x89] = [0xA5, 0x03, 0x00, 0xEF, 0xCD, 0xAB, 0x89] ∧
    encodeDatagram 0 65534 [1, 0, 0, 0] = [0x00, 0xFE, 0xFF, 0x01, 0x00, 0x00, 0x00] := by decide +kernel

/-- F-G4 in byte order b0 b1 b2 b3 (R94). -/
theorem test_decode_group :
    decode (.group 0b00110100#8 0b00010010#8 0b10101011#8 0b00000000#8) = .ok (.decg 0x34 0x12 0xAB 0x00) := rfl

/-- The operations with no format of the spec, by the calls of log entry 9, with the largest operands. -/
theorem test_decode_calls :
    decode (.call 0 [] []) = .ok .stopseq ∧ decode (.call 1 [3] []) = .ok (.ratehz 3) ∧
    decode (.call 2 [641] []) = .ok (.tstamp 641) ∧ decode (.call 3 [] [7, 0, 1]) = .ok (.parse [7, 0, 1]) ∧
    decode (.call 4 [65535] []) = .ok (.adv 65535) ∧ decode (.call 5 [8, 5] []) = .ok (.gaplen 8 5) ∧
    decode (.call 6 [8] []) = .ok (.classify 8) ∧ decode (.call 7 [5] []) = .ok (.classifyInorder 5) ∧
    decode (.call 8 [8] []) = .ok (.classifyGap 8) ∧ decode (.call 9 [0x10003] [1]) = .ok (.reasm [1] (.gap 3)) ∧
    decode (.call 10 [0] [1]) = .ok (.gsLoad [1] .inOrder) ∧ decode (.call 11 [] []) = .ok .gsZfill ∧
    decode (.call 12 [] []) = .ok .gsPayload ∧ decode (.call 13 [] [0x34]) = .ok (.decb [0x34]) := by decide +kernel

/-- Calls that name nothing. -/
theorem test_decode_calls_refused :
    decode (.call 1 [4] []) = .error (.badArguments 1) ∧ decode (.call 4 [65536] []) = .error (.badArguments 4) ∧
    decode (.call 9 [0x10000] []) = .error (.badArguments 9) ∧ decode (.call 14 [] []) = .error (.unknownSelector 14) := by
  decide +kernel

/-- Table words, numbered as R101 numbers them (log entry 11). -/
theorem test_table_words :
    decodeTableWord 8 0b010 = some (.dgram []) ∧ decodeTableWord 16 0x0003 = some (.ctlStart 3) ∧
    decodeTableWord 24 0x10001 = some (.recGap 1) ∧ decodeTableWord 24 0x00001 = some (.recPayload [0]) ∧
    decodeTableWord 24 0xA50300 = some (.dgramValid [0xA5, 0x03, 0x00]) ∧
    decodeTableWord 32 0x3412AB00 = some (.decg 0x34 0x12 0xAB 0x00) := by decide +kernel

/-- A table word runs as the first operation after reset. -/
theorem test_first_step : step (State.reset.withFetchWord 8 0b001) = exec (.start 0) State.reset := rfl

/-! States the checks below start from. -/

/-- The state after reset and `START rc`. -/
def startedAt (rc : RateCode) : State :=
  { State.reset with session := .started, rate := rc, ctlOut := [startMessage rc] }

/-- A session with one datagram behind it, at a value of EXPECTED and with these bytes in ABUF. -/
def receivingAt (e : Counter) (bytes : List Byte) : State :=
  { startedAt 0 with session := .receiving, expected := e, abuf := Memory.write [] 0 bytes, wptr := bytes.length }

/-- A finished session. -/
def stoppedState : State := { startedAt 0 with session := .stopped, ctlOut := [[0x00, 0x00], [0x01]] }

/-- The synthesizer with blocks to append and the payload `EF CD AB 89` behind them, at WPTR = 8 (V5). -/
def fillingAt (n : BitVec 16) : State :=
  { receivingAt 2 [0x34, 0x12, 0xAB, 0x00, 0x78, 0x56, 0x34, 0x12] with
    gsState := .zfill, zrem := n, plen := 4, pbuf := loadPbuf State.reset.pbuf [0xEF, 0xCD, 0xAB, 0x89] }

/-- The same synthesizer with its fill behind it. -/
def flushing : State := { fillingAt 0 with gsState := .payload }

/-- A capacity of 1024 bytes (V5). -/
def bounded (s : State) : State := { s with params := ⟨some 1024, none⟩ }

/-- A block after a BufferOverflow. -/
def faulted : State := { bounded (receivingAt 1 []) with fault := true }

/-- A test of the next state. -/
def goesTo (o : Out) (f : State → Bool) : Bool :=
  match o with
  | .next t => f t
  | .fault _ => false
  | .refused _ => false

/-- A stop outside a precondition, under this name. -/
def stopsWith (o : Out) (name : String) : Bool :=
  match o with
  | .next _ => false
  | .fault f => f == .precondition name
  | .refused _ => false

/-! One step of each operation. -/

/-- V6, last row: FAULT cleared, SESSION Idle, CTL_OUT empty, held events discarded. -/
theorem test_reset : goesTo (exec .reset { faulted with held := [.evt 3 0 []] }) (fun t =>
    !t.fault && t.session == .idle && t.ctlOut == [] && t.held == [] && t.wptr == 0 && t.expected == 0) = true := by
  decide

/-- V6: `START 2` in Idle emits `00 02`. -/
theorem test_start : goesTo (exec (.start 2) { State.reset with expected := 9, wptr := 3 }) (fun t =>
    t.session == .started && t.rate == 2 && t.expected == 0 && t.wptr == 0 && t.ctlOut == [[0x00, 0x02]]) = true := by
  decide

/-- V6: `START 7` in Stopped is InvalidConfiguration, `START 1` in Started is BadState. -/
theorem test_start_rejected :
    goesTo (exec (.start 7) stoppedState) (fun t => t.ret == .result (.invalidConfiguration 7)) = true ∧
    goesTo (exec (.start 1) (startedAt 0)) (fun t => t.ret == .result .badState && t.session == .started) = true := by
  decide

/-- S5: EXPECTED = 5, counter 8: Gap(3), EXPECTED = 9, PLEN = 4, ZREM = 3, GS_ZFILL. -/
theorem test_dgram_gap : goesTo (exec (.dgram [0x00, 0x08, 0x00, 0x34, 0x12, 0xAB, 0x00]) (receivingAt 5 [])) (fun t =>
    t.ret == .result (.ok (some (.gap 3))) && t.expected == 9 && t.zrem == 3 && t.plen == 4 && t.gsState == .zfill &&
    t.wptr == 0) = true := by decide +kernel

/-- V6: a datagram in Idle is dropped. -/
theorem test_dgram_idle : goesTo (exec (.dgram [0, 0, 0, 1]) State.reset) (fun t =>
    t.ret == .result .badState && t.session == .idle && t.expected == 0) = true := by decide

/-- R183's example: `07 01` with EXPECTED = 1. -/
theorem test_dgramShort : goesTo (exec (.dgramShort [0x07, 0x01]) (receivingAt 1 [])) (fun t =>
    t.ret == .result (.shortDatagram 2) && t.expected == 1) = true := by decide

/-- R100: at 3 and at 259 bytes the short and the oversize arm are not selected. -/
theorem test_dgram_arms_bounds : stopsWith (exec (.dgramShort [0, 0, 0]) State.reset) "DGRAM.SHORT" = true ∧
    stopsWith (exec (.dgramOversize (List.replicate 259 0)) State.reset) "DGRAM.OVERSIZE" = true := by decide +kernel

/-- R184's example: 260 bytes with EXPECTED = 7. -/
theorem test_dgramOversize : goesTo (exec (.dgramOversize (List.replicate 260 0xFF)) (receivingAt 7 [])) (fun t =>
    t.ret == .result (.oversizeDatagram 260) && t.expected == 7) = true := by decide +kernel

/-- V6: `DGE 0 0` with EXPECTED = 0. -/
theorem test_dgramValid : goesTo (exec (.dgramValid [0, 0, 0]) (receivingAt 0 [])) (fun t =>
    t.ret == .result (.ok (some .inOrder)) && t.expected == 1 && t.gsState == .payload && t.plen == 0) = true := by
  decide +kernel

/-- S8: TIMEOUT with no datagram. -/
theorem test_timeout : goesTo (exec .timeout (startedAt 0)) (fun t =>
    t.session == .stopped && t.samples == [] && t.ctlOut == [[0x00, 0x00], [0x01]] && t.ret == .result (.ok none)) =
    true := by decide

/-- V6: CANCEL with ABUF = `34 12 AB 00`. -/
theorem test_cancel : goesTo (exec .cancel (receivingAt 1 [0x34, 0x12, 0xAB, 0x00])) (fun t =>
    t.session == .stopped && t.samples == [2737, 564]) = true := by decide

/-- V6: CANCEL in Stopped sends no second stop message. -/
theorem test_cancel_stopped : goesTo (exec .cancel stoppedState) (fun t =>
    t.ret == .result .badState && t.ctlOut == [[0x00, 0x00], [0x01]]) = true := by decide

/-- P4: the trailing ninth byte gives no sample. -/
theorem test_stopseq :
    goesTo (exec .stopseq (receivingAt 2 [0x34, 0x12, 0xAB, 0x00, 0x78, 0x56, 0x34, 0x12, 0x99])) (fun t =>
    t.samples == [2737, 564, 837, 1656] && t.session == .stopped) = true := by decide

theorem test_ctlStart : goesTo (exec (.ctlStart 3) State.reset) (fun t => t.ctlOut == [[0x00, 0x03]]) = true := by
  decide

theorem test_ctlStop : goesTo (exec .ctlStop (startedAt 1)) (fun t => t.ctlOut == [[0x00, 0x01], [0x01]]) = true := by
  decide

/-- S1. -/
theorem test_ratehz : goesTo (exec (.ratehz 1) State.reset) (fun t => t.ret == .hertz 500000) = true := by decide

/-- V7: RATE = 3, index 255 is 51/400000 s. -/
theorem test_tstamp : goesTo (exec (.tstamp 255) (startedAt 3)) (fun t => t.ret == .seconds (mkRat 51 400000)) = true := by
  decide +kernel

/-- V3: `FF 34 12` is 0x1234, low byte first. -/
theorem test_parse : goesTo (exec (.parse [0xFF, 0x34, 0x12]) State.reset) (fun t =>
    t.ret == .parsed 0xFF 0x1234 []) = true := by decide

/-- S2. -/
theorem test_adv : goesTo (exec (.adv 65535) State.reset) (fun t => t.ret == .counter 0) = true := by decide

/-- S3: `GAPLEN(4, 5) = 65535`. -/
theorem test_gaplen : goesTo (exec (.gaplen 4 5) State.reset) (fun t => t.ret == .counter 65535) = true := by decide

/-- V4: EXPECTED = 65534, counter 2. -/
theorem test_classify : goesTo (exec (.classify 2) (receivingAt 65534 [])) (fun t =>
    t.ret == .verdict (.gap 4) && t.expected == 3) = true := by decide

/-- V4: the wrap in the InOrder arm. -/
theorem test_classifyInorder : goesTo (exec (.classifyInorder 65535) (receivingAt 65535 [])) (fun t =>
    t.ret == .verdict .inOrder && t.expected == 0) = true := by decide

/-- V4: the wrap in the Gap arm, the largest gap. -/
theorem test_classifyGap : goesTo (exec (.classifyGap 65535) (receivingAt 0 [])) (fun t =>
    t.ret == .verdict (.gap 65535) && t.expected == 0) = true := by decide

/-- V5, third row of the order: zeros first, then the payload. -/
theorem test_reasm : goesTo (exec (.reasm [0xEF, 0xCD, 0xAB, 0x89] (.gap 1)) (receivingAt 4 [0x34])) (fun t =>
    t.wptr == 261 && t.abuf == [(0, 0x34), (257, 0xEF), (258, 0xCD), (259, 0xAB), (260, 0x89)]) = true := by
  decide +kernel

/-- V5, capacity 1024 at WPTR = 8: Gap(3) is accepted (780), Gap(4) is a BufferOverflow. -/
theorem test_reasm_capacity :
    goesTo (exec (.reasm [0xEF, 0xCD, 0xAB, 0x89] (.gap 3)) (bounded (fillingAt 1))) (fun t => t.wptr == 780) = true ∧
    goesTo (exec (.reasm [0xEF, 0xCD, 0xAB, 0x89] (.gap 4)) (bounded (fillingAt 1))) (fun t =>
      t.fault && t.ret == .result .bufferOverflow) = true := by decide +kernel

/-- R163's example. -/
theorem test_recPayload : goesTo (exec (.recPayload [0x34, 0x12, 0xAB, 0x00]) State.reset) (fun t =>
    t.abufBytes == [0x34, 0x12, 0xAB, 0x00] && t.wptr == 4) = true := by decide

/-- V5, last row: Gap(65535) at WPTR = 4. -/
theorem test_recGap : goesTo (exec (.recGap 65535) (receivingAt 1 [1, 2, 3, 4])) (fun t =>
    t.wptr == 16776964 && t.abuf == [(0, 1), (1, 2), (2, 3), (3, 4)]) = true := by decide

/-- R167's example. -/
theorem test_gsLoad : goesTo (exec (.gsLoad [0xEF, 0xCD, 0xAB, 0x89] (.gap 1)) (receivingAt 4 [1])) (fun t =>
    t.plen == 4 && t.zrem == 1 && t.gsState == .zfill && t.wptr == 1 && t.pbufBytes == [0xEF, 0xCD, 0xAB, 0x89]) =
    true := by decide +kernel

/-- V5's trace: the last block. -/
theorem test_gsZfill : goesTo (exec .gsZfill (fillingAt 1)) (fun t =>
    t.wptr == 264 && t.zrem == 0 && t.gsState == .payload) = true := by decide

/-- S5's trace: a block that is not the last. -/
theorem test_gsZfill_more : goesTo (exec .gsZfill (fillingAt 3)) (fun t =>
    t.wptr == 264 && t.zrem == 2 && t.gsState == .zfill) = true := by decide

/-- V5's trace: the payload. -/
theorem test_gsPayload : goesTo (exec .gsPayload flushing) (fun t =>
    t.wptr == 12 && t.gsState == .idle && t.abuf.get 8 == 0xEF && t.abuf.get 11 == 0x89) = true := by decide +kernel

/-- V1: every nibble distinct; b3 ignored. -/
theorem test_decg : goesTo (exec (.decg 0xEF 0xCD 0xAB 0x89) State.reset) (fun t => t.ret == .pair 0xABC 0xDEF) = true ∧
    decodeGroup 0 0 0 0xFF = (0, 0) ∧ decodeGroup 0x00 0xF0 0xFF 0x00 = (4095, 0) := by decide

/-- V2, last row: misaligned bytes. -/
theorem test_decb : goesTo (exec (.decb [0x12, 0xAB, 0x00, 0x78, 0x56, 0x34, 0x12, 0x99, 0x77]) State.reset) (fun t =>
    t.ret == .samples [10, 2834, 291, 1110]) = true := by decide

/-- Not the spec's but the model's choice (log entry 15): an event with a reserved code that arrives during a fill is
held; it gets the BadState of R107 once the synthesizer is idle. -/
theorem test_reserved_code_waits_for_the_fill :
    goesTo (step { flushing with input := [[.evt 5 0 []]] }) (fun t =>
      t.held == [.evt 5 0 []] && t.ret == flushing.ret &&
      goesTo (step t) (fun u => u.held == [] && u.ret == .result .badState)) = true := by decide

/-- R171: an event that arrives during a fill is held behind the micro-step, a RESET is not. -/
theorem test_hold :
    goesTo (step { fillingAt 2 with input := [[.evt 4 0 []]] }) (fun t => t.held == [.evt 4 0 []] && t.wptr == 264) = true ∧
    goesTo (step { fillingAt 2 with input := [[.evt 4 0 [], .evt 0 0 []]] }) (fun t =>
      t.held == [] && t.session == .idle) = true := by decide

/-- R222, R240: a RESET discards what arrived before it and not what arrives after it. -/
theorem test_reset_order :
    goesTo (step { startedAt 1 with held := [.evt 3 0 []], input := [[.evt 0 0 [], .evt 1 2 []]] }) (fun t =>
      t.session == .idle && t.held == [] && t.input == [[.evt 1 2 []]] &&
      goesTo (step t) (fun u => u.session == .started && u.rate == 2 && u.ctlOut == [[0x00, 0x02]])) = true := by decide

/-- The encodings of SESSION and GS_STATE in the status view (V8, R37), ZREM in bits 17 to 2 of ST_GS. -/
theorem test_status_view :
    State.reset.statusView 0 = some 0b00 ∧ (startedAt 0).statusView 0 = some 0b01 ∧
    (receivingAt 1 []).statusView 0 = some 0b10 ∧ stoppedState.statusView 0 = some 0b11 ∧
    State.reset.statusView 4 = some 0b00 ∧ (fillingAt 3).statusView 4 = some 0b1101 ∧
    flushing.statusView 4 = some 0b10 ∧ faulted.statusView 5 = some 1 := by decide

/-- The artifact of a two-sample session, as S4 and V7 give it at RATE 0. -/
theorem test_artifact : goesTo (exec .cancel (receivingAt 1 [0x34, 0x12, 0xAB, 0x00])) (fun t =>
    t.artifact == [(0, 2737), (mkRat 1 200000, 564)]) = true := by decide +kernel

/-- A line of the trace notation, its bytes and a comment (R110, P1). -/
theorem test_trace_line :
    readTraceLine ("DG 0xA5 3 : EF CD # late".toList) = some (.dg 0xA5 3 [0xEF, 0xCD]) ∧
    readTraceLine ("STOP".toList) = some .stop ∧ TraceLine.event .stop = .timeout ∧
    readTraceLine ("DGE 0 65536".toList) = none := by decide +kernel

/-! For each statement with hypotheses, concrete states and operands that meet them all, at the ends of their ranges. -/

theorem witness_DecodeOfEncodeIsTheInstruction :
    WellFormed (.gsLoad (List.replicate 256 1) (.gap 65535)) = true ∧ WellFormed (.parse [1, 2, 3]) = true ∧
    WellFormed (.dgramOversize (List.replicate 260 1)) = true ∧ WellFormed (.start 255) = true := by decide +kernel

theorem witness_DecodedPacketsAreCanonical :
    decode (.record 0x1FFFF#17 []) = .ok (.recGap 65535) ∧ (Packet.record 0x1FFFF#17 []).isEvent = false ∧
    decode (.call 9 [0x1FFFF] [1]) = .ok (.reasm [1] (.gap 65535)) ∧ (Packet.call 9 [0x1FFFF] [1]).isEvent = false ∧
    decode (.evt 1 4 [9]) = .ok (.start 4) := by decide +kernel

theorem witness_DatagramFieldsRoundTrip : 3 ≤ [0x07#8, 0x00, 0x01].length := by decide

/-- Both ways in: idle with FAULT = 0, and FAULT = 1 with the synthesizer in any state. -/
theorem witness_StepRunsTheDecodedPacket :
    (let s := { startedAt 0 with input := [[.evt 3 0 []]] }
     s.arrive.held = [.evt 3 0 []] ∧ s.arrive.resetPending = false ∧ s.gsState = .idle ∧
     decode (.evt 3 0 []) = .ok .timeout) ∧
    (let s := { faulted with gsState := .zfill, held := [.evt 2 0 [], .evt 3 0 []] }
     s.arrive.held = .evt 2 0 [] :: [.evt 3 0 []] ∧ s.arrive.resetPending = false ∧ s.fault = true ∧
     decode (.evt 2 0 []) = .ok (.dgram [])) := by
  exact ⟨⟨rfl, rfl, rfl, rfl⟩, ⟨rfl, rfl, rfl, rfl⟩⟩

/-- A TIMEOUT before the RESET, a START and a second RESET behind it. -/
theorem witness_ResetLeavesTheResetValues :
    (State.arrive { fillingAt 1 with held := [.evt 3 0 []], input := [[.evt 0 7 [], .evt 1 2 [], .evt 0 0 []]] }).held =
      [.evt 3 0 []] ++ .evt 0 7 [] :: [.evt 1 2 [], .evt 0 0 []] ∧
    ∀ p ∈ [Packet.evt 3 0 []], p.isReset = false := by decide

theorem witness_BusySynthesizerStepsAndHoldsEvents :
    (let s := { fillingAt 1 with input := [[.evt 3 0 []]] }
     s.arrive.resetPending = false ∧ s.fault = false ∧ s.gsState = .zfill ∧ s.zrem ≠ 0) ∧
    (flushing.arrive.resetPending = false ∧ flushing.fault = false ∧ flushing.gsState = .payload) := by decide

theorem witness_EventsAreHeldWhileBusy :
    ((fillingAt 1).gsState ≠ .idle ∧ (fillingAt 1).fault = false) ∧
    (flushing.gsState ≠ .idle ∧ flushing.fault = false) := by decide

theorem witness_WaitingBlockKeepsItsState :
    (let s := { startedAt 2 with input := [[], [.evt 3 0 []]] }
     s.held = [] ∧ s.input.headD [] = [] ∧ s.gsState = .idle ∧ s.fault = false) ∧
    ((startedAt 2).held = [] ∧ (startedAt 2).input.headD [] = [] ∧ (startedAt 2).gsState = .idle ∧
     (startedAt 2).fault = false) := by decide

theorem witness_ReservedEventCodesGetBadState :
    (let s := { startedAt 0 with held := [.evt 5 1 [2], .evt 3 0 []] }
     5 ≤ (5 : BitVec 3).toNat ∧ s.arrive.held = .evt 5 1 [2] :: [.evt 3 0 []] ∧ s.arrive.resetPending = false ∧
     s.gsState = .idle) ∧
    (let s := { faulted with held := [.evt 7 0 []] }
     5 ≤ (7 : BitVec 3).toNat ∧ s.arrive.held = .evt 7 0 [] :: [] ∧ s.arrive.resetPending = false ∧
     s.fault = true) := by decide

/-- Groups 0 and 1 of nine bytes, the last of which is in no group. -/
theorem witness_DecbReturnsTheGroupsInOrder :
    (let buf : List Byte := [1, 2, 3, 4, 5, 6, 7, 8, 9]
     (buf[4 * 0]? = some 1 ∧ buf[4 * 0 + 1]? = some 2 ∧ buf[4 * 0 + 2]? = some 3 ∧ buf[4 * 0 + 3]? = some 4) ∧
     (buf[4 * 1]? = some 5 ∧ buf[4 * 1 + 1]? = some 6 ∧ buf[4 * 1 + 2]? = some 7 ∧ buf[4 * 1 + 3]? = some 8)) := by
  decide

theorem witness_DecbSplitsAtGroups : ([] : List Byte).length % 4 = 0 ∧ [1#8, 2, 3, 4].length % 4 = 0 := by decide

/-- With no bound the largest gap fits; with 1024 bytes, four blocks at WPTR = 0 and three at WPTR = 8. -/
theorem witness_ZeroFillDecodesToZeroSamples :
    State.fits (fillingAt 1) (256 * (65535 : BitVec 16).toNat) = true ∧ (fillingAt 1).wptr % 4 = 0 ∧
    State.fits (bounded (receivingAt 0 [])) (256 * (4 : BitVec 16).toNat) = true ∧
    State.fits (bounded (fillingAt 1)) (256 * (3 : BitVec 16).toNat) = true := by decide

theorem witness_ParseSplitsADatagram :
    (List.replicate 256 (0 : Byte)).length ≤ 256 ∧ ([] : List Byte).length ≤ 256 := by decide +kernel

theorem witness_GaplenCountsAdvances :
    0 < (gaplen 0 65535).toNat ∧ (0 : Counter) ≠ 65535 ∧ (8 : Counter) ≠ 5 := by decide

theorem witness_ClassifyComparesAndAdvances :
    (65535 : Counter) = (receivingAt 65535 []).expected ∧ (0 : Counter) ≠ (receivingAt 65535 []).expected := by decide

theorem witness_ClassifyArmsRunWhereSelected :
    (0 : Counter) = (receivingAt 0 []).expected ∧ (65535 : Counter) ≠ (receivingAt 0 []).expected := by decide

theorem witness_DuplicatesAndLateCountersAreLargeGaps :
    (receivingAt 0 []).expected = adv 65535 ∧ (receivingAt 5 []).expected = adv 4 ∧
    (0 < 1 ∧ 1 < 65536) ∧ (0 < 65535 ∧ 65535 < 65536) := by decide

/-- A payload of 256 bytes with the largest gap; with 1024 bytes at WPTR = 8, 780 in all and one block too many. -/
theorem witness_ReasmAppendsZerosThenPayload :
    ((List.replicate 256 (1 : Byte)).length ≤ 256 ∧ Verdict.gap 65535 ≠ .gap 0 ∧
     (fillingAt 1).fits (256 * (Verdict.gap 65535).count.toNat + 256) = true) ∧
    ([1#8, 2, 3, 4].length ≤ 256 ∧ Verdict.gap 3 ≠ .gap 0 ∧
     (bounded (fillingAt 1)).fits (256 * (Verdict.gap 3).count.toNat + [1#8, 2, 3, 4].length) = true) ∧
    (Verdict.gap 4 ≠ .gap 0 ∧
     (bounded (fillingAt 1)).fits (256 * (Verdict.gap 4).count.toNat + [1#8, 2, 3, 4].length) = false) := by
  decide +kernel

theorem witness_ReasmIsItsRecordsInOrder :
    ((List.replicate 256 (1 : Byte)).length ≤ 256 ∧ State.reset.fits 256 = true) ∧
    ((1 : BitVec 16) ≠ 0 ∧ (bounded (receivingAt 0 [])).fits (256 * (1 : BitVec 16).toNat + 256) = true) ∧
    ((65535 : BitVec 16) ≠ 0 ∧ State.reset.fits (256 * (65535 : BitVec 16).toNat + 256) = true) := by decide +kernel

theorem witness_RecordsAppendTheirBytes :
    ((List.replicate 256 (1 : Byte)).length ≤ 256 ∧ (bounded (fillingAt 1)).fits 256 = true) ∧
    ([1#8].length ≤ 256 ∧ ({ receivingAt 0 [2] with params := ⟨some 1, none⟩ } : State).fits [1#8].length = false) ∧
    ((bounded (receivingAt 0 [])).fits (256 * (5 : BitVec 16).toNat) = false ∧
     (bounded (receivingAt 0 [])).fits (256 * (4 : BitVec 16).toNat) = true ∧
     State.reset.fits (256 * (65535 : BitVec 16).toNat) = true) := by decide +kernel

theorem witness_GsLoadStoresTheDatagram :
    ((List.replicate 256 (1 : Byte)).length ≤ 256 ∧ Verdict.inOrder ≠ .gap 0 ∧ (receivingAt 5 []).gsState = .idle ∧
     (receivingAt 5 []).fits (256 * Verdict.inOrder.count.toNat + 256) = true) ∧
    (([] : List Byte).length ≤ 256 ∧ Verdict.gap 5 ≠ .gap 0 ∧ (bounded (receivingAt 5 [])).gsState = .idle ∧
     (bounded (receivingAt 5 [])).fits (256 * (Verdict.gap 5).count.toNat + ([] : List Byte).length) = false) := by
  decide +kernel

theorem witness_GsZfillAppendsOneBlock :
    ((fillingAt 1).gsState = .zfill ∧ (fillingAt 1).zrem ≠ 0) ∧
    ((fillingAt 65535).gsState = .zfill ∧ (fillingAt 65535).zrem ≠ 0) := by decide

theorem witness_GsPayloadAppendsPbuf :
    (flushing.gsState = .payload ∧ flushing.plen.toNat ≤ 256) ∧
    (let s := { flushing with plen := 256 }
     s.gsState = .payload ∧ s.plen.toNat ≤ 256) := by decide

theorem witness_InternalOperationsStopOutsideTheirPreconditions :
    ((fillingAt 0).zrem = 0 ∧ State.reset.gsState ≠ .zfill) ∧ State.reset.gsState ≠ .payload ∧
    ([1#8].length ≤ 256 ∧ Verdict.gap 1 ≠ .gap 0 ∧ flushing.gsState ≠ .idle) ∧
    (256 < (List.replicate 257 (0 : Byte)).length ∧ Verdict.gap 0 = .gap 0) ∧
    ([0#8, 0].length < 3 ∧ 259 < (List.replicate 260 (0 : Byte)).length) ∧
    (flushing.gsState ≠ .idle ∧ faulted.fault = true ∧ State.reset.session = .idle ∧ stoppedState.session = .stopped) := by
  decide +kernel

/-- With a TIMEOUT held behind the datagram and another packet still to arrive. -/
theorem witness_MicroStepsImplementReasm :
    (let s := { bounded (receivingAt 5 []) with held := [.evt 3 0 []], input := [[.evt 2 0 []]] }
     (List.replicate 256 (1 : Byte)).length ≤ 256 ∧ Verdict.gap 3 ≠ .gap 0 ∧ s.gsState = .idle ∧ s.fault = false ∧
     s.NoReset ∧ s.fits (256 * (Verdict.gap 3).count.toNat + 256) = true) := by
  refine ⟨by decide +kernel, by decide, rfl, rfl, ⟨by decide, by decide⟩, by decide +kernel⟩

theorem witness_BusySynthesizerBecomesIdle :
    (let s := { fillingAt 65535 with held := [.evt 3 0 []], input := [[.evt 2 0 []]] }
     s.fault = false ∧ (s.gsState = .zfill ∧ s.zrem ≠ 0) ∧ s.NoReset) :=
  ⟨rfl, ⟨rfl, by decide⟩, by decide, by decide⟩

theorem witness_StartOpensASession :
    (3 : Byte).toNat ≤ 3 ∧ (0 : Byte).toNat ≤ 3 ∧ State.reset.session = .idle ∧ State.reset.fault = false ∧
    State.reset.gsState = .idle := by decide

theorem witness_RejectedStartChangesNothing :
    ((startedAt 0).gsState = .idle ∧ 3 < (4 : Byte).toNat ∧ (3 : Byte).toNat ≤ 3 ∧ (startedAt 0).session ≠ .idle) ∧
    (faulted.fault = true ∧ 3 < (255 : Byte).toNat ∧ (0 : Byte).toNat ≤ 3) := by decide

theorem witness_ShortAndOversizeDatagramsAreSkipped :
    ((startedAt 0).gsState = .idle ∧ (startedAt 0).fault = false ∧ (startedAt 0).session = .started ∧
     ([] : List Byte).length < 3 ∧ [0#8, 0].length < 3) ∧
    ((receivingAt 7 []).gsState = .idle ∧ (receivingAt 7 []).fault = false ∧ (receivingAt 7 []).session = .receiving ∧
     259 < (List.replicate 260 (0 : Byte)).length) := by decide +kernel

theorem witness_ValidDatagramIsClassifiedAndLoaded :
    (([] : List Byte).length ≤ 256 ∧ (startedAt 0).gsState = .idle ∧ (startedAt 0).fault = false ∧
     (startedAt 0).session = .started ∧
     (startedAt 0).fits (256 * (gaplen 65535 (startedAt 0).expected).toNat + ([] : List Byte).length) = true) ∧
    (let s := bounded (receivingAt 5 [])
     (List.replicate 256 (0 : Byte)).length ≤ 256 ∧ s.gsState = .idle ∧ s.fault = false ∧ s.session = .receiving ∧
     s.fits (256 * (gaplen 8 s.expected).toNat + 256) = true) := by decide +kernel

theorem witness_EventsOutsideASessionAreRefused :
    (State.reset.gsState = .idle ∧ State.reset.session = .idle) ∧
    (stoppedState.gsState = .idle ∧ stoppedState.session = .stopped) ∧ faulted.fault = true := by decide

theorem witness_DatagramArmsRunWhereSelected :
    [0#8, 0].length < 3 ∧ 259 < (List.replicate 260 (0 : Byte)).length ∧
    ((List.replicate 256 (0 : Byte)).length ≤ 256 ∧ (receivingAt 5 []).gsState = .idle ∧
     (receivingAt 5 []).fits (256 * (gaplen 8 (receivingAt 5 []).expected).toNat + 256) = true) ∧
    (([] : List Byte).length ≤ 256 ∧ (bounded (receivingAt 5 [])).gsState = .idle ∧
     (bounded (receivingAt 5 [])).fits (256 * (gaplen 10 (bounded (receivingAt 5 [])).expected).toNat +
       ([] : List Byte).length) = false) ∧
    (3 ≤ [0#8, 0, 0].length ∧ [0#8, 0, 0].length ≤ 259) ∧
    (3 ≤ (List.replicate 259 (0 : Byte)).length ∧ (List.replicate 259 (0 : Byte)).length ≤ 259) ∧
    (fillingAt 1).gsState ≠ .idle ∧ flushing.gsState ≠ .idle := by decide +kernel

theorem witness_StopEventsRunTheStopSequence :
    ((startedAt 0).gsState = .idle ∧ (startedAt 0).fault = false ∧ (startedAt 0).session = .started) ∧
    ((receivingAt 1 [1]).gsState = .idle ∧ (receivingAt 1 [1]).fault = false ∧
     (receivingAt 1 [1]).session = .receiving) := by decide

theorem witness_OverflowSetsFault :
    (let s := bounded (receivingAt 5 [])
     ([] : List Byte).length ≤ 256 ∧ s.gsState = .idle ∧ s.fault = false ∧ s.session = .receiving ∧
     s.fits (256 * (gaplen 10 s.expected).toNat + ([] : List Byte).length) = false) := by decide

theorem witness_CapacityIsBufCapAndPtrW :
    State.reset.params = ⟨none, none⟩ ∧ (bounded State.reset).params = ⟨some 1024, none⟩ ∧
    ({ State.reset with params := ⟨none, some 10⟩ } : State).params = ⟨none, some 10⟩ ∧
    ({ State.reset with params := ⟨some 0, some 0⟩ } : State).params = ⟨some 0, some 0⟩ := by decide

theorem witness_FaultRefusesEveryEventButReset :
    faulted.fault = true ∧ 3 < (4 : Byte).toNat ∧ (3 : Byte).toNat ≤ 3 := by decide

/-- An overflow sets FAULT, a RESET clears it. -/
theorem witness_FaultIsSetByOverflowAndClearedByReset :
    (∃ t, exec (.recGap 5) (bounded (receivingAt 1 [])) = .next t ∧ (bounded (receivingAt 1 [])).fault = false ∧
      t.fault = true) ∧
    (∃ t, exec .reset faulted = .next t ∧ faulted.fault = true ∧ t.fault = false) :=
  ⟨⟨_, rfl, rfl, rfl⟩, ⟨_, rfl, rfl, rfl⟩⟩

/-- One move along each edge. -/
theorem witness_SessionMovesAlongTheTable :
    (∃ t, exec .reset stoppedState = .next t ∧ t.session = .idle) ∧
    (∃ t, exec (.start 3) State.reset = .next t ∧ t.session = .started) ∧
    (∃ t, exec (.dgram []) (startedAt 0) = .next t ∧ t.session = .receiving) ∧
    (∃ t, exec .timeout (startedAt 0) = .next t ∧ t.session = .stopped) ∧
    (∃ t, exec .cancel (receivingAt 1 []) = .next t ∧ t.session = .stopped) :=
  ⟨⟨_, rfl, rfl⟩, ⟨_, rfl, rfl⟩, ⟨_, rfl, rfl⟩, ⟨_, rfl, rfl⟩, ⟨_, rfl, rfl⟩⟩

/-- Each writer, with FAULT = 0 afterwards. -/
theorem witness_ExpectedHasThreeWriters :
    (∃ t, exec .reset faulted = .next t ∧ t.fault = false) ∧
    (∃ t, exec (.start 3) { State.reset with expected := 7 } = .next t ∧ t.fault = false ∧ t.session = .started) ∧
    (∃ t, exec (.classify 8) (receivingAt 5 []) = .next t ∧ t.fault = false) ∧
    (∃ t, exec (.dgram [0, 8, 0]) (receivingAt 5 []) = .next t ∧ t.fault = false) ∧
    (∃ t, exec (.dgramValid [0, 8, 0]) State.reset = .next t ∧ t.fault = false) :=
  ⟨⟨_, rfl, rfl⟩, ⟨_, rfl, rfl, rfl⟩, ⟨_, rfl, rfl⟩, ⟨_, rfl, rfl⟩, ⟨_, rfl, rfl⟩⟩

theorem witness_RateHasTwoWriters :
    (∃ t, exec (.start 3) State.reset = .next t ∧ t.rate = 3) ∧ (∃ t, exec .reset (startedAt 3) = .next t ∧ t.rate = 0) :=
  ⟨⟨_, rfl, rfl⟩, ⟨_, rfl, rfl⟩⟩

/-- An operation that appends, in a canonical state. -/
theorem witness_AbufIsAppendOnly :
    ∃ t, exec (.recPayload [0, 1]) (receivingAt 1 [9]) = .next t ∧ (receivingAt 1 [9]).abuf.wf = true ∧
      t.fault = false ∧ t.wptr = 3 := ⟨_, rfl, by decide, rfl, rfl⟩

theorem witness_PacketTypeByteHasNoEffect : (receivingAt 1 []).gsState = .idle ∧ faulted.fault = true := by decide

/-- Each session state, each synthesizer state, both values of FAULT. -/
theorem witness_StatusViewShowsTheState :
    (State.reset.session = .idle ∧ (startedAt 0).session = .started ∧ (receivingAt 1 []).session = .receiving ∧
     stoppedState.session = .stopped) ∧
    (State.reset.gsState = .idle ∧ (fillingAt 65535).gsState = .zfill ∧ flushing.gsState = .payload) ∧
    (State.reset.fault = false ∧ faulted.fault = true) ∧ 6 ≤ 6 := by decide

theorem witness_ArtifactPairsTimesWithSamples :
    (startedAt 3).gsState = .idle ∧ (startedAt 3).fault = false ∧ (startedAt 3).session = .started ∧
    (receivingAt 1 [1, 2, 3, 4]).session = .receiving ∧
    (decodeBuffer (receivingAt 1 [0x34, 0x12, 0xAB, 0x00]).abufBytes)[1]? = some 564 := by decide

theorem witness_ResetStateMeetsTheInvariant :
    ∀ b ∈ [[Packet.evt 1 2 []], [.evt 7 0 [1], .evt 0 0 []]], ∀ p ∈ b, p.isEvent = true := by decide

/-- The filling state of V5 with a bound that it just fits meets the invariant. -/
theorem fillingAt_inv : (bounded { fillingAt 3 with input := [[.evt 4 0 []]] }).Inv where
  canonical := by decide
  onlyEvents := ⟨by decide, by decide⟩
  dbufRoom := by decide
  messages := by decide
  faultOnlyFinite := by intro h; cases h
  data := fun _ =>
    { belowWptr := by decide
      plenBound := by decide
      zfillCount := by decide
      payloadCount := by decide
      busyReceiving := by decide
      capacity := by decide
      samplesAtStop := by decide
      idleEmpty := by decide }

theorem witness_StepKeepsTheInvariant :
    ∃ t, (bounded { fillingAt 3 with input := [[.evt 4 0 []]] }).Inv ∧
      step (bounded { fillingAt 3 with input := [[.evt 4 0 []]] }) = .next t := ⟨_, fillingAt_inv, rfl⟩

theorem witness_InvariantStatesNeverStop : ∃ s : State, s.Inv ∧ s.gsState = .zfill := ⟨_, fillingAt_inv, rfl⟩

theorem witness_SessionIsAFunctionOfItsTrace :
    (let ds : List (List Byte) := [[], [0, 8, 0, 1], [9]]
     let s := { State.reset with held := encode (.start 3) :: (ds.map fun d => encode (.dgram d)) ++ [encode .timeout] }
     (3 : Byte).toNat ≤ 3 ∧ s.session = .idle ∧ s.gsState = .idle ∧ s.fault = false ∧ s.ctlOut = [] ∧
     s.params = ⟨none, none⟩ ∧ s.input = []) := by decide

end Sys2Proof.Machine
end

section
/-! PROOFS. The scope of a step and of the capacity test: what `State.pick` selects and what `State.fits` asks, each said
once as a rule, then O6 and O47. -/

namespace Sys2Proof.Machine

/-! What a step selects. -/

/-- The order of selection, one rule for a block that accepts events: with no RESET pending, under FAULT or in GS_IDLE, the
queue decides (R171, R190, R222). -/
theorem State.pick_eq_takeHeld {s : State} (hr : s.resetPending = false) (ha : s.fault = true ∨ s.gsState = .idle) :
    s.pick = s.takeHeld := by
  cases hf : s.fault with
  | true => simp [State.pick, hr, hf]
  | false =>
    have hidle : s.gsState = .idle := by simpa [hf] using ha
    simp [State.pick, hr, hf, hidle]

/-- The oldest held packet is taken from the queue and its operation selected (R171). -/
theorem State.takeHeld_of_decode {s : State} {p : Packet} {rest : List Packet} {i : Instr} (hh : s.held = p :: rest)
    (hd : decode p = .ok i) : s.takeHeld = .run i { s with held := rest } := by
  simp [State.takeHeld, hh, hd]

/-- A selected operation is run to its end (R10). -/
theorem step_of_pick_run {s t : State} {i : Instr} (h : s.arrive.pick = .run i t) : step s = exec i t := by
  simp [step, h]

/-- Settles O6: the selection falls to the queue, whose oldest packet gives the operation. Arrival leaves FAULT and
GS_STATE as they are, so the block still accepts an event once the batch is in. -/
theorem stepRunsTheDecodedPacket : Obligations.StepRunsTheDecodedPacket := by
  intro s p rest i hheld hreset haccepts hdecode
  have haccepts' : s.arrive.fault = true ∨ s.arrive.gsState = .idle := by simpa using haccepts
  apply step_of_pick_run
  calc s.arrive.pick
      _ = s.arrive.takeHeld := State.pick_eq_takeHeld hreset haccepts'
      _ = .run i { s.arrive with held := rest } := State.takeHeld_of_decode hheld hdecode

/-! What fits. -/

/-- The capacity test asks for each finite parameter, and only for those, that the new WPTR stays within it (R7, R217). -/
theorem State.fits_iff (s : State) (n : Nat) :
    s.fits n = true ↔
      (∀ cap, s.params.bufCap = some cap → s.wptr + n ≤ cap) ∧
      (∀ w, s.params.ptrW = some w → s.wptr + n < 2 ^ w) := by
  unfold State.fits
  rw [Bool.and_eq_true]
  apply and_congr
  · cases s.params.bufCap <;> simp
  · cases s.params.ptrW <;> simp

/-- Settles O47: each shape of the parameters is one reading of `State.fits_iff`; the defaults are the unbounded case. -/
theorem capacityIsBufCapAndPtrW : Obligations.CapacityIsBufCapAndPtrW := by
  intro s n
  refine ⟨s.fits_unbounded n, ?bufCapOnly, ?ptrWOnly, ?both⟩
  case bufCapOnly => intro cap hparams; simp [State.fits_iff, hparams]
  case ptrWOnly => intro w hparams; simp [State.fits_iff, hparams]
  case both => intro cap w hparams; simp [State.fits_iff, hparams]

end Sys2Proof.Machine
end

section
/-! PROOFS. The writers of the state elements (spec/10_state.md). Every operation has one of six effects on EXPECTED, RATE,
FAULT and ABUF: `exec_effect` says so once for the 27 operations, and O49, O51, O52 and O53 each read it off by cases. The
statements about the reset state, about FAULT and about the status view follow. -/

namespace Sys2Proof.Machine

/-! The tests of an event, as facts about the state. -/

theorem State.sessionOpen_iff (s : State) :
    s.sessionOpen = true ↔ s.fault = false ∧ (s.session = .started ∨ s.session = .receiving) := by
  simp [State.sessionOpen]

theorem State.startable_iff (s : State) : s.startable = true ↔ s.fault = false ∧ s.session = .idle := by
  simp [State.startable]

/-- An event that need not wait while FAULT is 0 finds the synthesizer in GS_IDLE (R171). -/
theorem State.gsState_idle_of_mustHold {s : State} (hhold : s.mustHold = false) (hfault : s.fault = false) :
    s.gsState = .idle := by
  simpa [State.mustHold, State.busy, hfault] using hhold

/-! An extension: RATE, FAULT and the parameters stay, and ABUF at most grows. -/

/-- `t` comes from `s` by appends to ABUF and by writes outside RATE, FAULT, ABUF and the parameters (R23). -/
structure State.ExtendedBy (s t : State) : Prop where
  rate : t.rate = s.rate
  fault : t.fault = s.fault
  params : t.params = s.params
  canonical : s.abuf.wf = true → t.abuf.wf = true
  bytes : s.abufBytes <+: t.abufBytes

/-- A write that leaves ABUF alone. -/
theorem State.ExtendedBy.of_frame {s t : State} (hrate : t.rate = s.rate := by simp)
    (hfault : t.fault = s.fault := by simp) (hparams : t.params = s.params := by simp)
    (habuf : t.abuf = s.abuf := by simp) (hwptr : t.wptr = s.wptr := by simp) : s.ExtendedBy t where
  rate := hrate
  fault := hfault
  params := hparams
  canonical := fun hwf => habuf ▸ hwf
  bytes := by rw [State.abufBytes_congr habuf hwptr]

theorem State.ExtendedBy.refl (s : State) : s.ExtendedBy s := .of_frame rfl rfl rfl rfl rfl

theorem State.ExtendedBy.trans {s t u : State} (h : s.ExtendedBy t) (h' : t.ExtendedBy u) : s.ExtendedBy u where
  rate := h'.rate.trans h.rate
  fault := h'.fault.trans h.fault
  params := h'.params.trans h.params
  canonical := fun hwf => h'.canonical (h.canonical hwf)
  bytes := h.bytes.trans h'.bytes

/-- An extension never lowers WPTR, which is the number of bytes in ABUF. -/
theorem State.ExtendedBy.wptr_le {s t : State} (h : s.ExtendedBy t) : s.wptr ≤ t.wptr := by
  simpa using h.bytes.length_le

theorem State.extendedBy_append (s : State) (v : List Byte) : s.ExtendedBy (s.append v) where
  rate := rfl
  fault := rfl
  params := rfl
  canonical := Memory.wf_write _ _
  bytes := by simp

theorem State.extendedBy_appendZeros (s : State) (n : Nat) : s.ExtendedBy (s.appendZeros n) where
  rate := rfl
  fault := rfl
  params := rfl
  canonical := Memory.wf_fillZero _ _
  bytes := by simp

theorem State.extendedBy_reassemble (s : State) (p : List Byte) (v : Verdict) : s.ExtendedBy (s.reassemble p v) :=
  (s.extendedBy_appendZeros _).trans (State.extendedBy_append _ p)

theorem State.extendedBy_zeroFillBlock (s : State) : s.ExtendedBy s.zeroFillBlock :=
  (s.extendedBy_appendZeros 256).trans .of_frame

theorem State.extendedBy_flushPayload (s : State) : s.ExtendedBy s.flushPayload :=
  (s.extendedBy_append s.pbufBytes).trans .of_frame

/-! An overflow. -/

/-- `t` is `s` after a BufferOverflow: what holds whatever the free values of the data path are (R217). -/
structure State.OverflowedTo (s t : State) : Prop where
  fault : t.fault = true
  ret : t.ret = .result .bufferOverflow
  finite : s.params ≠ ⟨none, none⟩
  rate : t.rate = s.rate
  canonical : t.abuf.wf = true

/-- What does not fit overflows, and so a parameter is finite (R32, R217). -/
theorem State.ExtendedBy.overflowedTo_raise {s u : State} {n : Nat} (h : s.ExtendedBy u) (hfull : u.fits n = false) :
    s.OverflowedTo (u.raise .bufferOverflow) where
  fault := rfl
  ret := rfl
  finite := fun hdefault => by
    have hfits : u.fits n = true := u.fits_unbounded n (h.params.trans hdefault)
    simp [hfull] at hfits
  rate := h.rate
  canonical := Memory.wf_write _ _ rfl

theorem State.overflowedTo_raise {s : State} {n : Nat} (hfull : s.fits n = false) :
    s.OverflowedTo (s.raise .bufferOverflow) :=
  (State.ExtendedBy.refl s).overflowedTo_raise hfull

theorem State.OverflowedTo.expireDbuf {s t : State} (h : s.OverflowedTo t) : s.OverflowedTo t.expireDbuf where
  fault := h.fault
  ret := h.ret
  finite := h.finite
  rate := h.rate
  canonical := h.canonical

/-- A datagram of legal length that follows an extension is classified and loaded, or overflows (R185). -/
theorem State.ExtendedBy.receiveValid {s u : State} (h : s.ExtendedBy u) (d : List Byte) :
    (s.ExtendedBy (u.receiveValid d) ∧ (u.receiveValid d).expected = adv (receivedOf d)) ∨
    s.OverflowedTo (u.receiveValid d) := by
  have hclassified : s.ExtendedBy (u.classified (receivedOf d)) := h.trans .of_frame
  rcases u.receiveValid_cases d with ⟨-, heq⟩ | ⟨hfull, heq⟩
  · rw [heq]
    exact .inl ⟨hclassified.trans .of_frame, by simp⟩
  · rw [heq]
    exact .inr (hclassified.overflowedTo_raise hfull)

/-! What an operation can do. -/

/-- The effects of operation `i`, run in `s` and ending in `t`, on EXPECTED, RATE, FAULT and ABUF. -/
inductive Effect (i : Instr) (s t : State) : Prop
  /-- EXPECTED stays and ABUF at most grows. -/
  | keepsExpected (hext : s.ExtendedBy t) (hexpected : t.expected = s.expected)
  /-- RESET (R240). -/
  | resets (hi : i = .reset) (ht : t = s.resetBlock)
  /-- An accepted START (R181). -/
  | opens (rc : Byte) (hi : i = .start rc) (hcode : rc.toNat ≤ 3) (hsession : s.session = .idle)
      (hfault : s.fault = false) (hidle : s.gsState = .idle) (ht : t = (s.openSession rc).returnOk)
  /-- CLASSIFY on its own, or one of its arms (R146). -/
  | classifies (r : Counter) (hi : i = .classify r ∨ i = .classifyInorder r ∨ i = .classifyGap r)
      (hext : s.ExtendedBy t) (hexpected : t.expected = adv r)
  /-- A datagram of legal length, classified and loaded, by an accepted DGRAM or by DGRAM.VALID itself (R182, R185). -/
  | receives (d : List Byte)
      (hi : (i = .dgram d ∧ s.fault = false ∧ (s.session = .started ∨ s.session = .receiving)) ∨ i = .dgramValid d)
      (hidle : s.gsState = .idle) (hlength : 3 ≤ d.length ∧ d.length ≤ 259) (hext : s.ExtendedBy t)
      (hexpected : t.expected = adv (receivedOf d))
  /-- BufferOverflow (R217). -/
  | overflows (hover : s.OverflowedTo t)

section
variable {i : Instr} {s t : State}

/-- A returned value is the only change. -/
theorem Effect.withRet (v : Ret) : Effect i s (s.withRet v) := .keepsExpected .of_frame rfl

/-- The event waits (R171). -/
theorem Effect.hold (p : Packet) : Effect i s (s.hold p) := .keepsExpected .of_frame rfl

theorem Effect.emit (m : List Byte) : Effect i s (s.emit m) := .keepsExpected .of_frame rfl

theorem Effect.stopSequence : Effect i s s.stopSequence := .keepsExpected .of_frame rfl

end

theorem execStart_effect {rc : Byte} {s t : State} (h : execStart rc s = .next t) : Effect (.start rc) s t := by
  rcases execStart_cases h with ⟨-, rfl⟩ | ⟨-, -, rfl⟩ | ⟨-, -, -, rfl⟩ | ⟨hhold, hcode, hstart, ht⟩
  · exact .hold _
  · exact .withRet _
  · exact .withRet _
  · obtain ⟨hfault, hsession⟩ := s.startable_iff.mp hstart
    exact .opens rc rfl ((rateCodeOk_iff rc).mp hcode) hsession hfault (s.gsState_idle_of_mustHold hhold hfault) ht

/-- An accepted datagram is skipped for its length, or received; either way DBUF is dead afterwards (R182 to R185). -/
theorem State.acceptDatagram_effect {s : State} (d : List Byte) (hhold : s.mustHold = false)
    (hopen : s.sessionOpen = true) : Effect (.dgram d) s (s.acceptDatagram d) := by
  obtain ⟨hfault, hsession⟩ := s.sessionOpen_iff.mp hopen
  have hidle : s.gsState = .idle := s.gsState_idle_of_mustHold hhold hfault
  have hloaded : s.ExtendedBy (s.enterReceiving.loadDbuf d) := .of_frame
  rcases s.acceptDatagram_cases d with ⟨-, heq⟩ | ⟨-, heq⟩ | ⟨hvalid, heq⟩
  · rw [heq]; exact .keepsExpected .of_frame (by simp)
  · rw [heq]; exact .keepsExpected .of_frame (by simp)
  · rw [heq]
    rcases hloaded.receiveValid d with ⟨hext, hexpected⟩ | hover
    · exact .receives d (.inl ⟨rfl, hfault, hsession⟩) hidle ((validLength_iff d).mp hvalid) (hext.trans .of_frame)
        hexpected
    · exact .overflows hover.expireDbuf

theorem execDgram_effect {d : List Byte} {s t : State} (h : execDgram d s = .next t) : Effect (.dgram d) s t := by
  rcases execDgram_cases h with ⟨-, rfl⟩ | ⟨-, -, rfl⟩ | ⟨hhold, hopen, rfl⟩
  · exact .hold _
  · exact .withRet _
  · exact State.acceptDatagram_effect d hhold hopen

theorem execDgramValid_effect {d : List Byte} {s t : State} (h : execDgramValid d s = .next t) :
    Effect (.dgramValid d) s t := by
  obtain ⟨hvalid, hidle, rfl⟩ := execDgramValid_cases h
  rcases (State.ExtendedBy.refl s).receiveValid d with ⟨hext, hexpected⟩ | hover
  · exact .receives d (.inr rfl) hidle ((validLength_iff d).mp hvalid) hext hexpected
  · exact .overflows hover

/-- TIMEOUT and CANCEL have the same three outcomes: held, refused, or the stop sequence (R186, R187). -/
theorem effect_of_stop_cases {i : Instr} {s t : State}
    (h : (s.mustHold = true ∧ t = s.hold (encode i)) ∨
      (s.mustHold = false ∧ s.sessionOpen = false ∧ t = s.withRet (.result .badState)) ∨
      (s.mustHold = false ∧ s.sessionOpen = true ∧ t = s.stopSequence)) : Effect i s t := by
  rcases h with ⟨-, rfl⟩ | ⟨-, -, rfl⟩ | ⟨-, -, rfl⟩
  · exact .hold _
  · exact .withRet _
  · exact .stopSequence

theorem execClassifyInorder_effect {r : Counter} {s t : State} (h : execClassifyInorder r s = .next t) :
    Effect (.classifyInorder r) s t := by
  obtain ⟨rfl, rfl⟩ := execClassifyInorder_cases h
  exact .classifies _ (.inr (.inl rfl)) .of_frame rfl

theorem execClassifyGap_effect {r : Counter} {s t : State} (h : execClassifyGap r s = .next t) :
    Effect (.classifyGap r) s t := by
  obtain ⟨-, rfl⟩ := execClassifyGap_cases h
  exact .classifies r (.inr (.inr rfl)) .of_frame rfl

theorem execReasm_effect {p : List Byte} {v : Verdict} {s t : State} (h : execReasm p v s = .next t) :
    Effect (.reasm p v) s t := by
  obtain ⟨-, -, ⟨-, rfl⟩ | ⟨hfull, rfl⟩⟩ := execReasm_cases h
  · exact .keepsExpected (s.extendedBy_reassemble p v) rfl
  · exact .overflows (State.overflowedTo_raise hfull)

theorem execRecPayload_effect {p : List Byte} {s t : State} (h : execRecPayload p s = .next t) :
    Effect (.recPayload p) s t := by
  obtain ⟨-, ⟨-, rfl⟩ | ⟨hfull, rfl⟩⟩ := execRecPayload_cases h
  · exact .keepsExpected (s.extendedBy_append p) rfl
  · exact .overflows (State.overflowedTo_raise hfull)

theorem execRecGap_effect {n : BitVec 16} {s t : State} (h : execRecGap n s = .next t) : Effect (.recGap n) s t := by
  rcases execRecGap_cases h with ⟨-, rfl⟩ | ⟨hfull, rfl⟩
  · exact .keepsExpected (s.extendedBy_appendZeros _) rfl
  · exact .overflows (State.overflowedTo_raise hfull)

theorem execGsLoad_effect {p : List Byte} {v : Verdict} {s t : State} (h : execGsLoad p v s = .next t) :
    Effect (.gsLoad p v) s t := by
  obtain ⟨-, -, -, ⟨-, rfl⟩ | ⟨hfull, rfl⟩⟩ := execGsLoad_cases h
  · exact .keepsExpected .of_frame rfl
  · exact .overflows (State.overflowedTo_raise hfull)

/-- Every operation that answers a next state has one of the effects of `Effect`. -/
theorem exec_effect {i : Instr} {s t : State} (h : exec i s = .next t) : Effect i s t := by
  cases i with
  | reset => exact .resets rfl (next_inj h).symm
  | start rc => exact execStart_effect h
  | dgram d => exact execDgram_effect h
  | dgramShort d => obtain ⟨-, rfl⟩ := execDgramShort_cases h; exact .withRet _
  | dgramOversize d => obtain ⟨-, rfl⟩ := execDgramOversize_cases h; exact .withRet _
  | dgramValid d => exact execDgramValid_effect h
  | timeout => exact effect_of_stop_cases (execTimeout_cases h)
  | cancel => exact effect_of_stop_cases (execCancel_cases h)
  | stopseq => obtain ⟨-, -, rfl⟩ := execStopseq_cases h; exact .stopSequence
  | ctlStart rc => obtain rfl := next_inj h; exact .emit _
  | ctlStop => obtain rfl := next_inj h; exact .emit _
  | ratehz c => obtain rfl := next_inj h; exact .withRet _
  | tstamp n => obtain rfl := next_inj h; exact .withRet _
  | parse d => obtain ⟨-, rfl⟩ := execParse_cases h; exact .withRet _
  | adv x => obtain rfl := next_inj h; exact .withRet _
  | gaplen r e => obtain rfl := next_inj h; exact .withRet _
  | classify r => obtain rfl := next_inj h; exact .classifies r (.inl rfl) .of_frame (by simp)
  | classifyInorder r => exact execClassifyInorder_effect h
  | classifyGap r => exact execClassifyGap_effect h
  | reasm p v => exact execReasm_effect h
  | recPayload p => exact execRecPayload_effect h
  | recGap n => exact execRecGap_effect h
  | gsLoad p v => exact execGsLoad_effect h
  | gsZfill => obtain ⟨-, -, rfl⟩ := execGsZfill_cases h; exact .keepsExpected s.extendedBy_zeroFillBlock rfl
  | gsPayload => obtain ⟨-, rfl⟩ := execGsPayload_cases h; exact .keepsExpected s.extendedBy_flushPayload rfl
  | decg b0 b1 b2 b3 => obtain rfl := next_inj h; exact .withRet _
  | decb buf => obtain rfl := next_inj h; exact .withRet _

/-! The writers of FAULT, EXPECTED, RATE and ABUF. -/

/-- Settles O49: an overflow sets FAULT, RESET clears it, and every other effect leaves FAULT as it is. -/
theorem faultIsSetByOverflowAndClearedByReset : Obligations.FaultIsSetByOverflowAndClearedByReset := by
  intro i s t h
  have unchanged (hkept : t.fault = s.fault) :
      (s.fault = false → t.fault = true → t.ret = .result .bufferOverflow ∧ s.params ≠ ⟨none, none⟩) ∧
      (s.fault = true → t.fault = false → i = .reset) :=
    ⟨fun h0 h1 => by simp [hkept, h0] at h1, fun h1 h0 => by simp [hkept, h1] at h0⟩
  cases exec_effect h with
  | keepsExpected hext _ => exact unchanged hext.fault
  | resets hi ht => exact ⟨fun _ hset => by simp [ht] at hset, fun _ _ => hi⟩
  | opens rc _ _ _ _ _ ht => exact unchanged (by simp [ht])
  | classifies r _ hext _ => exact unchanged hext.fault
  | receives d _ _ _ hext _ => exact unchanged hext.fault
  | overflows hover => exact ⟨fun _ _ => ⟨hover.ret, hover.finite⟩, fun _ h0 => by simp [hover.fault] at h0⟩

/-- Settles O51: each effect that writes EXPECTED is one of the writers of R22; an overflow, which frees it, leaves FAULT
set. -/
theorem expectedHasThreeWriters : Obligations.ExpectedHasThreeWriters := by
  intro i s t h hfault
  cases exec_effect h with
  | keepsExpected _ hexpected => exact .inl hexpected
  | resets hi ht => exact .inr (.inl ⟨hi, by simp [ht]⟩)
  | opens rc hi hcode hsession hs hidle ht =>
    exact .inr (.inr (.inl ⟨rc, hi, hcode, hsession, hs, hidle, by simp [ht], by simp [ht]⟩))
  | classifies r hi _ hexpected => exact .inr (.inr (.inr (.inl ⟨r, hi, hexpected⟩)))
  | receives d hi hidle hlength _ hexpected =>
    exact .inr (.inr (.inr (.inr ⟨d, hi, hidle, hlength.1, hlength.2, hexpected⟩)))
  | overflows hover => simp [hover.fault] at hfault

/-- The 2-bit form of a legal rate code is the code (R27). -/
theorem toNat_setWidth_rateCode {rc : Byte} (h : rc.toNat ≤ 3) : (rc.setWidth 2).toNat = rc.toNat := by
  rw [BitVec.toNat_setWidth, Nat.mod_eq_of_lt (by omega)]

/-- The start message carries the rate code it was given (R191). -/
theorem startMessage_setWidth {rc : Byte} (h : rc.toNat ≤ 3) : startMessage (rc.setWidth 2) = [0x00, rc] := by
  have hback : (rc.setWidth 2).setWidth 8 = rc := by
    apply BitVec.eq_of_toNat_eq
    rw [BitVec.toNat_setWidth, toNat_setWidth_rateCode h, Nat.mod_eq_of_lt rc.isLt]
  rw [startMessage, hback]
  rfl

/-- Settles O52: only RESET and an accepted START write RATE, an overflow included. -/
theorem rateHasTwoWriters : Obligations.RateHasTwoWriters := by
  intro i s t h
  cases exec_effect h with
  | keepsExpected hext _ => exact .inl hext.rate
  | resets hi ht => exact .inr (.inl ⟨hi, by simp [ht]⟩)
  | opens rc hi hcode _ _ _ ht =>
    have hrate : t.rate.toNat = rc.toNat := by rw [ht]; exact toNat_setWidth_rateCode hcode
    have hemitted : t.ctlOut = s.ctlOut ++ [[0x00, rc]] := by simp [ht, startMessage_setWidth hcode]
    exact .inr (.inr ⟨rc, hi, hcode, hrate, hemitted⟩)
  | classifies r _ hext _ => exact .inl hext.rate
  | receives d _ _ _ hext _ => exact .inl hext.rate
  | overflows hover => exact .inl hover.rate

/-- Settles O53: an extension is an append; RESET and START empty ABUF, and an overflow leaves FAULT set. -/
theorem abufIsAppendOnly : Obligations.AbufIsAppendOnly := by
  intro i s t h
  have extended (hext : s.ExtendedBy t) :
      (s.abuf.wf = true → t.abuf.wf = true) ∧
      (t.fault = false → i ≠ .reset → (∀ rc, i ≠ .start rc) → s.wptr ≤ t.wptr ∧ s.abufBytes <+: t.abufBytes) :=
    ⟨hext.canonical, fun _ _ _ => ⟨hext.wptr_le, hext.bytes⟩⟩
  cases exec_effect h with
  | keepsExpected hext _ => exact extended hext
  | resets hi ht => exact ⟨fun _ => by rw [ht]; rfl, fun _ hnot => absurd hi hnot⟩
  | opens rc hi _ _ _ _ ht => exact ⟨fun _ => by rw [ht]; rfl, fun _ _ hnot => absurd hi (hnot rc)⟩
  | classifies r _ hext _ => exact extended hext
  | receives d _ _ _ hext _ => exact extended hext
  | overflows hover => exact ⟨fun _ => hover.canonical, fun h0 => by simp [hover.fault] at h0⟩

/-! The reset state (R38). -/

/-- Settles O8: each element is the value written in `State.reset`, and the table is read at its four codes. -/
theorem resetStateHasTheTableValues : Obligations.ResetStateHasTheTableValues :=
  ⟨rfl, rfl, rfl, rfl, rfl, rfl, rfl, rfl, rfl, rfl, rfl, rfl, rfl, rfl, rfl, rfl, rfl⟩

/-- An empty ABUF is within every capacity. -/
theorem State.fits_zero_of_wptr {s : State} (h : s.wptr = 0) : s.fits 0 = true := by
  rw [State.fits_iff, h]
  exact ⟨fun cap _ => Nat.zero_le cap, fun w _ => Nat.two_pow_pos w⟩

/-- The data path after reset meets its invariant under any parameters and any schedule. -/
theorem State.reset_dataInv (params : Config.Params) (input : List (List Packet)) :
    ({ State.reset with params := params, input := input } : State).DataInv where
  belowWptr := by simp [State.reset]
  plenBound := by simp [State.reset]
  zfillCount := by simp [State.reset]
  payloadCount := by simp [State.reset]
  busyReceiving := by simp [State.reset]
  capacity := State.fits_zero_of_wptr rfl
  samplesAtStop := by simp [State.reset]
  idleEmpty := fun _ => ⟨rfl, rfl, rfl⟩

/-- Settles O57: nothing is held, emitted or stored after reset, and FAULT is 0. -/
theorem resetStateMeetsTheInvariant : Obligations.ResetStateMeetsTheInvariant := by
  intro params input hevents
  exact
    { canonical := State.reset_abuf_wf
      onlyEvents := ⟨by simp [State.reset], hevents⟩
      dbufRoom := Nat.zero_le _
      messages := rfl
      faultOnlyFinite := fun hfault => by simp [State.reset] at hfault
      data := fun _ => State.reset_dataInv params input }

/-! While FAULT is 1 (R32, R190). -/

section
variable {s : State}

theorem State.mustHold_of_fault (h : s.fault = true) : s.mustHold = false := by simp [State.mustHold, h]

theorem State.sessionOpen_of_fault (h : s.fault = true) : s.sessionOpen = false := by simp [State.sessionOpen, h]

theorem State.startable_of_fault (h : s.fault = true) : s.startable = false := by simp [State.startable, h]

theorem execStart_of_fault (h : s.fault = true) (rc : Byte) :
    execStart rc s =
      .next (s.withRet (.result (if rateCodeOk rc then .badState else .invalidConfiguration rc))) := by
  cases hcode : rateCodeOk rc <;> simp [execStart, State.mustHold_of_fault h, State.startable_of_fault h, hcode]

theorem execDgram_of_fault (h : s.fault = true) (d : List Byte) :
    execDgram d s = .next (s.withRet (.result .badState)) := by
  simp [execDgram, State.mustHold_of_fault h, State.sessionOpen_of_fault h]

theorem execTimeout_of_fault (h : s.fault = true) : execTimeout s = .next (s.withRet (.result .badState)) := by
  simp [execTimeout, State.mustHold_of_fault h, State.sessionOpen_of_fault h]

theorem execCancel_of_fault (h : s.fault = true) : execCancel s = .next (s.withRet (.result .badState)) := by
  simp [execCancel, State.mustHold_of_fault h, State.sessionOpen_of_fault h]

end

/-- Settles O48: no event waits under FAULT and no test of an event but the code test of START passes, so each is refused
with its one result. -/
theorem faultRefusesEveryEventButReset : Obligations.FaultRefusesEveryEventButReset := by
  intro s rc d hfault
  refine ⟨?illegalCode, ?legalCode, execDgram_of_fault hfault d, execTimeout_of_fault hfault,
    execCancel_of_fault hfault, s.resetBlock, rfl, rfl⟩
  case illegalCode =>
    intro hcode
    have hrejected : ¬rateCodeOk rc = true := by rw [rateCodeOk_iff]; omega
    exact (execStart_of_fault hfault rc).trans (by rw [if_neg hrejected]; rfl)
  case legalCode =>
    intro hcode
    exact (execStart_of_fault hfault rc).trans (by rw [if_pos ((rateCodeOk_iff rc).mpr hcode)]; rfl)

/-! The status view (R37). -/

/-- Entry 4 has GS_STATE in bits 1:0 and ZREM above them. -/
theorem State.statusView_four (s : State) :
    ∃ n, s.statusView 4 = some n ∧ n / 4 = s.zrem.toNat ∧ n % 4 = s.gsState.code.toNat := by
  have hcode : s.gsState.code.toNat < 4 := s.gsState.code.isLt
  exact ⟨_, rfl, by omega, by omega⟩

/-- After RESET every entry of the view reads 0. -/
theorem State.statusView_resetBlock (s : State) {n : Nat} (h : n ≤ 6) : s.resetBlock.statusView n = some 0 := by
  interval_cases n <;> rfl

/-- Settles O55: the entries are the fields themselves, SESSION, GS_STATE and FAULT through their encodings. -/
theorem statusViewShowsTheState : Obligations.StatusViewShowsTheState := by
  refine ⟨fun s => ?entries, fun s => ⟨s.resetBlock, rfl, fun n hn => s.statusView_resetBlock hn⟩⟩
  obtain ⟨n, hview, hzrem, hgs⟩ := s.statusView_four
  have session {x : Session} (h : s.session = x) : s.statusView 0 = some x.code.toNat := by rw [← h]; rfl
  have gsState {x : GsState} (h : s.gsState = x) : n % 4 = x.code.toNat := by rw [← h, hgs]
  have fault {b : Bool} (h : s.fault = b) : s.statusView 5 = some b.toNat := by rw [← h]; rfl
  exact ⟨session, session, session, session, rfl, rfl, rfl, ⟨n, hview, hzrem, gsState, gsState, gsState⟩, fault, fault,
    rfl⟩

end Sys2Proof.Machine
end

section
/-! PROOFS. The datagram's fields apart and together (R65, R99), and what a zero fill is to the sample decoder (R70): the
little-endian counter said once through its value, the two laws of DECB that a fill needs, then O5 and O17. -/

namespace Sys2Proof

/-! The counter of a datagram is byte 1 and byte 2, the low byte first (R65). -/

/-- The low byte of a counter, as `encodeDatagram` writes it. -/
theorem toNat_counterLow (c : Counter) : (c.setWidth 8).toNat = c.toNat % 256 := BitVec.toNat_setWidth 8 c

/-- The high byte of a counter, as `encodeDatagram` writes it. -/
theorem toNat_counterHigh (c : Counter) : ((c >>> 8).setWidth 8).toNat = c.toNat / 256 := by
  have hc : c.toNat < 65536 := c.isLt
  rw [BitVec.toNat_setWidth, BitVec.toNat_ushiftRight, Nat.shiftRight_eq_div_pow, Nat.mod_eq_of_lt (by omega)]

/-- Two bytes never exceed the 16 bits of a counter, so nothing is lost in it. -/
theorem toNat_receivedOf (d : List Byte) : (receivedOf d).toNat = (dgRead d 1).toNat + 256 * (dgRead d 2).toNat := by
  have hlow : (dgRead d 1).toNat < 256 := (dgRead d 1).isLt
  have hhigh : (dgRead d 2).toNat < 256 := (dgRead d 2).isLt
  rw [receivedOf, BitVec.toNat_ofNat, Nat.mod_eq_of_lt (by omega)]

theorem counterLow_receivedOf (d : List Byte) : (receivedOf d).setWidth 8 = dgRead d 1 := by
  have hlow : (dgRead d 1).toNat < 256 := (dgRead d 1).isLt
  apply BitVec.eq_of_toNat_eq
  rw [toNat_counterLow, toNat_receivedOf]
  omega

theorem counterHigh_receivedOf (d : List Byte) : (receivedOf d >>> 8).setWidth 8 = dgRead d 2 := by
  have hlow : (dgRead d 1).toNat < 256 := (dgRead d 1).isLt
  apply BitVec.eq_of_toNat_eq
  rw [toNat_counterHigh, toNat_receivedOf]
  omega

/-! The fields of an encoded datagram (R91). -/

@[simp] theorem typeOf_encodeDatagram (t : Byte) (c : Counter) (p : List Byte) : typeOf (encodeDatagram t c p) = t := rfl

@[simp] theorem payloadOf_encodeDatagram (t : Byte) (c : Counter) (p : List Byte) :
    payloadOf (encodeDatagram t c p) = p := rfl

@[simp] theorem receivedOf_encodeDatagram (t : Byte) (c : Counter) (p : List Byte) :
    receivedOf (encodeDatagram t c p) = c := by
  apply BitVec.eq_of_toNat_eq
  calc (receivedOf (encodeDatagram t c p)).toNat
      _ = (c.setWidth 8).toNat + 256 * ((c >>> 8).setWidth 8).toNat := toNat_receivedOf _
      _ = c.toNat % 256 + 256 * (c.toNat / 256) := by rw [toNat_counterLow, toNat_counterHigh]
      _ = c.toNat := Nat.mod_add_div c.toNat 256

/-- A datagram that has a header is its three header bytes and its payload (R99). -/
theorem header_cons_payloadOf {d : List Byte} (h : 3 ≤ d.length) :
    dgRead d 0 :: dgRead d 1 :: dgRead d 2 :: payloadOf d = d := by
  match d, h with
  | _ :: _ :: _ :: _, _ => rfl

/-- Settles O5: PARSE inverts the encoder field by field, and the bytes that the encoder makes of the parsed counter are
bytes 1 and 2 again. -/
theorem datagramFieldsRoundTrip : Obligations.DatagramFieldsRoundTrip := by
  refine ⟨fun t c p => ?parseEncode, fun d hlength => ?encodeParse, toNat_receivedOf⟩
  case parseEncode => simp [parse]
  case encodeParse =>
    simp only [parse, encodeDatagram, counterLow_receivedOf, counterHigh_receivedOf]
    exact header_cons_payloadOf hlength

/-! The sample decoder on a buffer that grows from a multiple of 4 (R125). -/

/-- Complete groups decode alone: what follows them starts a group of its own. -/
theorem decodeBuffer_append {p : List Byte} (h : p.length % 4 = 0) (q : List Byte) :
    decodeBuffer (p ++ q) = decodeBuffer p ++ decodeBuffer q := by
  induction p using decodeBuffer.induct with
  | case1 b0 b1 b2 b3 rest ih =>
    have hrest : rest.length % 4 = 0 := by simp only [List.length_cons] at h; omega
    simp [decodeBuffer, ih hrest]
  | case2 p hshort =>
    match p, h, hshort with
    | [], _, _ => simp [decodeBuffer]
    | b0 :: b1 :: b2 :: b3 :: rest, _, hshort => exact absurd rfl (hshort b0 b1 b2 b3 rest)

/-- An all-zero group is two zero samples (R120). -/
theorem decodeGroup_zero : decodeGroup 0#8 0#8 0#8 0#8 = (0#12, 0#12) := by decide

theorem decodeBuffer_replicate_zero (k : Nat) :
    decodeBuffer (List.replicate (4 * k) 0) = List.replicate (2 * k) 0 := by
  induction k with
  | zero => rfl
  | succ k ih => simpa [Nat.mul_succ, List.replicate_succ, decodeBuffer, decodeGroup_zero] using ih

end Sys2Proof

namespace Sys2Proof.Machine

/-- A REC.GAP that fits appends its zero blocks (R164). -/
theorem exec_recGap_of_fits {n : BitVec 16} {s : State} (h : s.fits (256 * n.toNat) = true) :
    exec (.recGap n) s = .next (s.appendZeros (256 * n.toNat)) := if_pos h

/-- A fill of `n` blocks behind complete groups is `64 * n` all-zero groups (R70). -/
theorem State.decodeBuffer_appendZeros {s : State} (h : s.wptr % 4 = 0) (n : Nat) :
    decodeBuffer (s.appendZeros (256 * n)).abufBytes = decodeBuffer s.abufBytes ++ List.replicate (128 * n) 0 := by
  have hgroups : s.abufBytes.length % 4 = 0 := by simpa using h
  have hzeros : decodeBuffer (List.replicate (256 * n) 0) = List.replicate (128 * n) 0 := by
    simpa [← Nat.mul_assoc] using decodeBuffer_replicate_zero (64 * n)
  rw [State.abufBytes_appendZeros, decodeBuffer_append hgroups, hzeros]

/-- Settles O17: a block is a multiple of 4 bytes, so the alignment stays, and from an aligned WPTR the fill decodes by
itself. -/
theorem zeroFillDecodesToZeroSamples : Obligations.ZeroFillDecodesToZeroSamples := by
  intro n s hfits
  have halign : (s.wptr + 256 * n.toNat) % 4 = s.wptr % 4 := by omega
  exact ⟨_, exec_recGap_of_fits hfits, halign, fun hwptr => State.decodeBuffer_appendZeros hwptr n.toNat⟩

end Sys2Proof.Machine
end

section
/-! PROOFS. Decoding and encoding (spec/30_encoding.md). Each part of a packet first: for a verdict, a numeric argument, a
record and a message, exactly which words stand for which value. The two directions of the codec follow, O1 from the
constructors of `Instr` and O2 from those of `Packet`. -/

namespace Sys2Proof

open Machine

/-! Verdicts (R97). -/

/-- A tagged word is determined by its tag bit and its value. -/
theorem tagged_eq_iff {t : Bool} {n : BitVec 16} {w : BitVec 17} : tagged t n = w ↔ tagBit w = t ∧ tagValue w = n := by
  constructor
  · rintro rfl
    exact ⟨tagBit_tagged t n, tagValue_tagged t n⟩
  · rintro ⟨rfl, rfl⟩
    exact tagged_tagBit_tagValue w

theorem decodeVerdict_eq_inOrder_iff (w : BitVec 17) :
    decodeVerdict w = some .inOrder ↔ tagBit w = false ∧ tagValue w = 0 := by
  cases htag : tagBit w <;> simp [decodeVerdict, htag]

theorem decodeVerdict_eq_gap_iff (w : BitVec 17) (n : BitVec 16) :
    decodeVerdict w = some (.gap n) ↔ (tagBit w = true ∧ tagValue w = n) ∧ n ≠ 0 := by
  cases htag : tagBit w with
  | false => simp [decodeVerdict, htag]
  | true => by_cases hvalue : tagValue w = n <;> simp [decodeVerdict, htag, hvalue]

/-- Settles O4: the tag bit says which verdict a word can be, and the two patterns without a verdict are Gap(0) and an
InOrder with a count. -/
theorem verdictWordsAreExact : Obligations.VerdictWordsAreExact := by
  intro w v
  cases v with
  | inOrder => simp [decodeVerdict_eq_inOrder_iff, encodeVerdict, tagged_eq_iff, verdictOk]
  | gap n => simp [decodeVerdict_eq_gap_iff, encodeVerdict, tagged_eq_iff, verdictOk]

/-! The numeric arguments of a call (log entry 9). -/

theorem argCounter_eq_some_iff {x : Nat} {c : Counter} : argCounter x = some c ↔ c.toNat = x := by
  rw [BitVec.toNat_eq_nat]
  simp [argCounter, eq_comm]

theorem argRate_eq_some_iff {x : Nat} {c : RateCode} : argRate x = some c ↔ c.toNat = x := by
  rw [BitVec.toNat_eq_nat]
  simp [argRate, eq_comm]

theorem argVerdict_eq_some_iff {x : Nat} {v : Verdict} :
    argVerdict x = some v ↔ (encodeVerdict v).toNat = x ∧ verdictOk v = true := by
  have hword : argVerdict x = some v ↔ x < 131072 ∧ decodeVerdict (BitVec.ofNat 17 x) = some v := by simp [argVerdict]
  rw [hword, verdictWordsAreExact, BitVec.toNat_eq_nat, and_assoc]

theorem keepWellFormed_eq_some_iff {i j : Instr} : keepWellFormed i = some j ↔ i = j ∧ WellFormed i = true := by
  unfold keepWellFormed
  split <;> simp_all

/-! Records (R98). -/

theorem decodeRecord_eq_payload_iff {head : BitVec 17} {data p : List Byte} :
    decodeRecord head data = some (.payload p) ↔
      payloadOk p = true ∧ encodeRecordHead (.payload p) = head ∧ data = p := by
  have hlength (hp : payloadOk p = true) :
      p.length = (tagValue head).toNat ↔ tagValue head = BitVec.ofNat 16 p.length := by
    have hp : p.length < 2 ^ 16 := by rw [payloadOk_iff] at hp; omega
    rw [eq_comm, BitVec.toNat_eq_nat, and_iff_right hp]
  rw [encodeRecordHead, tagged_eq_iff]
  cases htag : tagBit head with
  | true => by_cases hdata : data = [] <;> simp [decodeRecord, htag, hdata]
  | false =>
    by_cases hdata : data = p
    · subst hdata
      by_cases hp : payloadOk data = true <;> simp [decodeRecord, htag, hp, hlength]
    · simp [decodeRecord, htag, hdata]

theorem decodeRecord_eq_gap_iff {head : BitVec 17} {data : List Byte} {n : BitVec 16} :
    decodeRecord head data = some (.gap n) ↔ encodeRecordHead (.gap n) = head ∧ data = [] := by
  rw [encodeRecordHead, tagged_eq_iff]
  cases htag : tagBit head with
  | true => simp [decodeRecord, htag, and_comm]
  | false => simp [decodeRecord, htag]

/-! Control messages (R92, R93). -/

theorem decode_ctl_startMessage (rc : RateCode) : decode (.ctl (startMessage rc)) = .ok (.ctlStart rc) := by
  have hrc : rc.toNat < 4 := rc.isLt
  have hwide : (rc.setWidth 8).toNat = rc.toNat := by rw [BitVec.toNat_setWidth, Nat.mod_eq_of_lt (by omega)]
  have hlegal : rateCodeOk (rc.setWidth 8) = true := by rw [rateCodeOk_iff]; omega
  have hback : (rc.setWidth 8).setWidth 2 = rc := BitVec.setWidth_setWidth_of_le rc (by omega)
  simp [decode, startMessage, hlegal, hback]

/-- The two messages are all there is (R104). -/
theorem encode_of_decode_ctl {msg : List Byte} {i : Instr} (h : decode (.ctl msg) = .ok i) :
    WellFormed i = true ∧ encode i = .ctl msg := by
  match msg, h with
  | [op, rc], h =>
    simp only [decode] at h
    split at h
    · next hmsg =>
      obtain ⟨rfl, hrc⟩ : op = Config.ctlStartByte ∧ rateCodeOk rc = true := by simpa using hmsg
      cases h
      exact ⟨rfl, congrArg Packet.ctl (startMessage_setWidth ((rateCodeOk_iff rc).mp hrc))⟩
    · cases h
  | [op], h =>
    simp only [decode] at h
    split at h
    · next hop => subst hop; cases h; exact ⟨rfl, rfl⟩
    · cases h
  | [], h => cases h
  | _ :: _ :: _ :: _, h => cases h

/-! Datagrams (R100). -/

theorem oversizeLength_of_shortLength {d : List Byte} (h : shortLength d = true) : oversizeLength d = false := by
  rw [shortLength_iff] at h
  rw [← Bool.not_eq_true, oversizeLength_iff]
  omega

theorem decodeDatagram_of_short {d : List Byte} (h : shortLength d = true) : decodeDatagram d = .dgramShort d := if_pos h

theorem decodeDatagram_of_oversize {d : List Byte} (h : oversizeLength d = true) :
    decodeDatagram d = .dgramOversize d := by
  have hlong : ¬shortLength d = true := fun hshort => by simp [oversizeLength_of_shortLength hshort] at h
  rw [decodeDatagram, if_neg hlong, if_pos h]

theorem decodeDatagram_of_valid {d : List Byte} (h : validLength d = true) : decodeDatagram d = .dgramValid d := by
  obtain ⟨hshort, hover⟩ : shortLength d = false ∧ oversizeLength d = false := by simpa [validLength] using h
  simp [decodeDatagram, hshort, hover]

/-- The lengths of the three arms cover every datagram (R221). -/
theorem encode_decodeDatagram (d : List Byte) :
    WellFormed (decodeDatagram d) = true ∧ encode (decodeDatagram d) = .dg d := by
  cases hshort : shortLength d with
  | true => rw [decodeDatagram_of_short hshort]; exact ⟨hshort, rfl⟩
  | false =>
    cases hover : oversizeLength d with
    | true => rw [decodeDatagram_of_oversize hover]; exact ⟨hover, rfl⟩
    | false =>
      have hvalid : validLength d = true := by simp [validLength, hshort, hover]
      rw [decodeDatagram_of_valid hvalid]
      exact ⟨hvalid, rfl⟩

/-! Whole packets. -/

theorem decode_record_of_payloadOk {p : List Byte} (hp : payloadOk p = true) :
    decode (encode (.recPayload p)) = .ok (.recPayload p) := by
  have hrecord := decodeRecord_eq_payload_iff.mpr ⟨hp, rfl, rfl⟩
  simp [encode, encodeRecordData, decode, hrecord]

theorem decode_recGap (n : BitVec 16) : decode (encode (.recGap n)) = .ok (.recGap n) := by
  have hrecord : decodeRecord (encodeRecordHead (.gap n)) [] = some (.gap n) := decodeRecord_eq_gap_iff.mpr ⟨rfl, rfl⟩
  simp [encode, encodeRecordData, decode, hrecord]

theorem encode_of_decode_record {head : BitVec 17} {data : List Byte} {i : Instr}
    (h : decode (.record head data) = .ok i) : WellFormed i = true ∧ encode i = .record head data := by
  simp only [decode] at h
  split at h
  · next p hrecord =>
    obtain ⟨hp, rfl, rfl⟩ := decodeRecord_eq_payload_iff.mp hrecord
    cases h
    exact ⟨hp, rfl⟩
  · next n hrecord =>
    obtain ⟨rfl, rfl⟩ := decodeRecord_eq_gap_iff.mp hrecord
    cases h
    exact ⟨rfl, rfl⟩
  · cases h

/-- A call that names an operation is that operation's packet. -/
theorem decode_call_of_decodeCall {selector : Nat} {args : List Nat} {data : List Byte} {i : Instr}
    (h : decodeCall selector args data = some i) : decode (.call selector args data) = .ok i := by
  simp [decode, h]

/-- A call that decodes has the selector and the arguments of its operation's packet, all in range. The cases
are the selectors of `decodeCall` in its order, grouped by how their arguments are read. -/
theorem encode_of_decodeCall {selector : Nat} {args : List Nat} {data : List Byte} {i : Instr}
    (h : decodeCall selector args data = some i) : WellFormed i = true ∧ encode i = .call selector args data := by
  unfold decodeCall at h
  split at h
  case h_1 | h_3 | h_12 | h_13 | h_14 => cases h; exact ⟨rfl, rfl⟩
  case h_2 =>
    obtain ⟨c, hc, rfl⟩ := Option.map_eq_some_iff.mp h
    simp [WellFormed, encode, argRate_eq_some_iff.mp hc]
  case h_4 =>
    obtain ⟨rfl, hd⟩ := keepWellFormed_eq_some_iff.mp h
    exact ⟨hd, rfl⟩
  case h_5 | h_7 | h_8 | h_9 =>
    obtain ⟨c, hc, rfl⟩ := Option.map_eq_some_iff.mp h
    simp [WellFormed, encode, argCounter_eq_some_iff.mp hc]
  case h_6 =>
    obtain ⟨r, hr, hrest⟩ := Option.bind_eq_some_iff.mp h
    obtain ⟨e, he, rfl⟩ := Option.map_eq_some_iff.mp hrest
    simp [WellFormed, encode, argCounter_eq_some_iff.mp hr, argCounter_eq_some_iff.mp he]
  case h_10 | h_11 =>
    obtain ⟨v, hv, hkept⟩ := Option.bind_eq_some_iff.mp h
    obtain ⟨hword, -⟩ := argVerdict_eq_some_iff.mp hv
    obtain ⟨rfl, hwf⟩ := keepWellFormed_eq_some_iff.mp hkept
    exact ⟨hwf, by rw [encode, hword]⟩
  case h_15 => cases h

theorem encode_of_decode_call {selector : Nat} {args : List Nat} {data : List Byte} {i : Instr}
    (h : decode (.call selector args data) = .ok i) : WellFormed i = true ∧ encode i = .call selector args data := by
  simp only [decode] at h
  split at h
  · next hcall => cases h; exact encode_of_decodeCall hcall
  · split at h <;> cases h

/-! Events (R96). -/

/-- No operand of an event is out of range (R105). -/
theorem wellFormed_of_decode_evt {code : BitVec 3} {rc : Byte} {d : List Byte} {i : Instr}
    (h : decode (.evt code rc d) = .ok i) : WellFormed i = true := by
  simp only [decode] at h
  split at h <;> cases h <;> rfl

/-! The two directions of the codec. -/

/-- Settles O1: each operation is read back by the part of the decoder that its packet's format selects; a call reads its
numbers back as the operands they were. -/
theorem decodeOfEncodeIsTheInstruction : Obligations.DecodeOfEncodeIsTheInstruction := by
  intro i hwf
  cases i with
  | reset | start | dgram | timeout | cancel => rfl
  | ctlStop | decg | stopseq | tstamp | gsZfill | gsPayload | decb => rfl
  | dgramShort d => exact congrArg Except.ok (decodeDatagram_of_short hwf)
  | dgramOversize d => exact congrArg Except.ok (decodeDatagram_of_oversize hwf)
  | dgramValid d => exact congrArg Except.ok (decodeDatagram_of_valid hwf)
  | ctlStart rc => exact decode_ctl_startMessage rc
  | recPayload p => exact decode_record_of_payloadOk hwf
  | recGap n => exact decode_recGap n
  | ratehz => exact decode_call_of_decodeCall (by simp [decodeCall, argRate_eq_some_iff])
  | parse => exact decode_call_of_decodeCall (keepWellFormed_eq_some_iff.mpr ⟨rfl, hwf⟩)
  | adv | classify | classifyInorder | classifyGap =>
    exact decode_call_of_decodeCall (by simp [decodeCall, argCounter_eq_some_iff])
  | gaplen =>
    exact decode_call_of_decodeCall (by simp [decodeCall, Option.bind_eq_some_iff, argCounter_eq_some_iff])
  | reasm p v | gsLoad p v =>
    obtain ⟨-, hv⟩ : payloadOk p = true ∧ verdictOk v = true := by simpa [WellFormed] using hwf
    have harg : argVerdict (encodeVerdict v).toNat = some v := argVerdict_eq_some_iff.mpr ⟨rfl, hv⟩
    exact decode_call_of_decodeCall (by simp [decodeCall, harg, keepWellFormed_eq_some_iff, hwf])

/-- Settles O2: each format other than F-EVT has its own inverse; an event may carry operands it does not use, so only its
operation is well-formed. -/
theorem decodedPacketsAreCanonical : Obligations.DecodedPacketsAreCanonical := by
  intro p i h
  have canonical (hp : WellFormed i = true ∧ encode i = p) : WellFormed i = true ∧ (p.isEvent = false → encode i = p) :=
    ⟨hp.1, fun _ => hp.2⟩
  cases p with
  | evt code rc d => exact ⟨wellFormed_of_decode_evt h, fun hevent => by cases hevent⟩
  | ctl msg => exact canonical (encode_of_decode_ctl h)
  | dg d => cases h; exact canonical (encode_decodeDatagram d)
  | record head data => exact canonical (encode_of_decode_record h)
  | group b0 b1 b2 b3 => cases h; exact canonical ⟨rfl, rfl⟩
  | call selector args data => exact canonical (encode_of_decode_call h)

/-- Settles O3: each of the words is the encoding of a well-formed operation, so O1 reads it back. -/
theorem specWordsDecodeToTheirOperations : Obligations.SpecWordsDecodeToTheirOperations :=
  have readsBack := decodeOfEncodeIsTheInstruction
  ⟨readsBack .reset rfl, readsBack (.start 2) rfl, readsBack .timeout rfl, readsBack .cancel rfl,
    readsBack (.dgram [0xA5, 0x03, 0x00]) rfl, readsBack (.ctlStart 3) rfl, readsBack .ctlStop rfl,
    readsBack (.recPayload [0x7F]) rfl, readsBack (.recGap 5) rfl, readsBack (.dgramShort [0x07, 0x01]) rfl,
    readsBack (.dgramValid [0xFF, 0x34, 0x12]) rfl⟩

end Sys2Proof
end

section
/-! PROOFS. Events in the block as their packets read them (spec/30_encoding.md R92, R93, R102, R107): a reserved code in the
queue, the packet type byte of a datagram, and the two control messages. -/

namespace Sys2Proof.Machine

/-! Reserved event codes (R107). -/

theorem decode_evt_of_reserved {code : BitVec 3} (h : 5 ≤ code.toNat) (rc : Byte) (d : List Byte) :
    decode (.evt code rc d) = .error (.reservedEventCode code) := by
  simp only [decode]
  split
  case h_6 => rfl
  all_goals omega

/-- A reserved event that is the oldest is taken from the queue and answered BadState, and no operation runs (R107). -/
theorem State.takeHeld_of_reserved {s : State} {p : Packet} {rest : List Packet} {code : BitVec 3}
    (hh : s.held = p :: rest) (hd : decode p = .error (.reservedEventCode code)) :
    s.takeHeld = .settle (({ s with held := rest } : State).withRet (.result .badState)) := by
  simp [State.takeHeld, hh, hd]

/-- A step that selects no operation only settles (R10). -/
theorem step_of_pick_settle {s t : State} (h : s.arrive.pick = .settle t) : step s = .next t := by
  simp [step, h]

/-- Arrival moves one batch from the schedule to the queue (R39, R219). -/
theorem State.arrive_eq (s : State) :
    s.arrive = { s with held := s.held ++ s.input.headD [], input := s.input.tail } := by
  rw [← s.arrive_held, ← s.arrive_input]
  unfold State.arrive
  split <;> rfl

/-- Settles O12: the queue decides, its oldest packet has no operation, and arrival touches the queue and the schedule
alone. -/
theorem reservedEventCodesGetBadState : Obligations.ReservedEventCodesGetBadState := by
  intro s code rc d rest hcode hheld hreset haccepts
  have haccepts' : s.arrive.fault = true ∨ s.arrive.gsState = .idle := by simpa using haccepts
  have hpick : s.arrive.pick = .settle (({ s.arrive with held := rest } : State).withRet (.result .badState)) :=
    (State.pick_eq_takeHeld hreset haccepts').trans
      (State.takeHeld_of_reserved hheld (decode_evt_of_reserved hcode rc d))
  rw [step_of_pick_settle hpick, s.arrive_eq]
  rfl

/-! The packet type byte (R102). No rule reads byte 0: it stands in DBUF while the datagram is processed, and DBUF is dead
afterwards (R29). -/

/-- The state with other bytes in DBUF. -/
def State.withDbuf (s : State) (d : List Byte) : State := { s with dbuf := d }

theorem State.loadDbuf_eq_withDbuf {d : List Byte} (h : oversizeLength d = false) (s : State) :
    s.loadDbuf d = s.withDbuf d := by
  simp [State.loadDbuf, State.withDbuf, h]

@[simp] theorem State.withDbuf_dbuf (s : State) (d : List Byte) : (s.withDbuf d).dbuf = d := rfl

/-- What DBUF held is gone when its event is over. -/
@[simp] theorem State.expireDbuf_withDbuf (s : State) (d : List Byte) : (s.withDbuf d).expireDbuf = s.expireDbuf := rfl

@[simp] theorem State.withRet_withDbuf (s : State) (d : List Byte) (v : Ret) :
    (s.withDbuf d).withRet v = (s.withRet v).withDbuf d := rfl

@[simp] theorem State.classified_withDbuf (s : State) (d : List Byte) (r : Counter) :
    (s.withDbuf d).classified r = (s.classified r).withDbuf d := by
  by_cases hr : r = s.expected <;> simp [State.classified, State.withDbuf, hr] <;> rfl

/-- A datagram is received from its own bytes, not from those in DBUF. -/
theorem State.receiveValid_withDbuf (s : State) (d e : List Byte) :
    (s.withDbuf e).receiveValid d = (s.receiveValid d).withDbuf e := by
  rcases s.receiveValid_cases d with ⟨hfits, heq⟩ | ⟨hfull, heq⟩
  · rw [heq, State.receiveValid, State.classified_withDbuf]
    exact if_pos hfits
  · rw [heq, State.receiveValid, State.classified_withDbuf]
    exact if_neg (Bool.eq_false_iff.mp hfull)

/-- The state after an accepted datagram, with no trace of what stood in DBUF: each arm on its own (R183 to R185). -/
def State.acceptedBy (s : State) (d : List Byte) : State :=
  if shortLength d then s.withRet (.result (.shortDatagram d.length))
  else if oversizeLength d then s.withRet (.result (.oversizeDatagram d.length))
  else s.receiveValid d

theorem State.acceptDatagram_eq (s : State) (d : List Byte) :
    s.acceptDatagram d = (s.enterReceiving.acceptedBy d).expireDbuf := by
  unfold State.acceptDatagram State.dispatchDatagram State.acceptedBy
  cases hshort : shortLength d with
  | true => simp [State.rejectShort, State.loadDbuf_eq_withDbuf (oversizeLength_of_shortLength hshort)]
  | false =>
    cases hover : oversizeLength d with
    | true => simp [State.rejectOversize, State.loadDbuf, hover]
    | false => simp [State.loadDbuf_eq_withDbuf hover, State.receiveValid_withDbuf]

/-- Every arm reads the length, the counter and the payload only (R102). -/
theorem State.acceptedBy_cons (x y : Byte) (rest : List Byte) (s : State) :
    s.acceptedBy (x :: rest) = s.acceptedBy (y :: rest) := rfl

/-- Settles O54: refused or accepted, the datagram leaves a state that byte 0 is no part of. -/
theorem packetTypeByteHasNoEffect : Obligations.PacketTypeByteHasNoEffect := by
  intro x y rest s haccepts
  have hhold : s.mustHold = false := by
    rcases haccepts with hidle | hfault
    · simp [State.mustHold, State.busy, hidle]
    · exact State.mustHold_of_fault hfault
  cases hopen : s.sessionOpen with
  | false =>
    have hrefused (d : List Byte) : exec (.dgram d) s = .next (s.withRet (.result .badState)) := by
      simp [exec, execDgram, hhold, hopen]
    exact ⟨_, hrefused _, hrefused _⟩
  | true =>
    have haccepted (d : List Byte) : exec (.dgram d) s = .next (s.enterReceiving.acceptedBy d).expireDbuf := by
      simp [exec, execDgram, hhold, hopen, State.acceptDatagram_eq]
    exact ⟨_, haccepted _, by rw [haccepted, State.acceptedBy_cons]⟩

/-! Control messages (R92, R93). -/

/-- Settles O43: the two emissions append the messages of their formats, and appending to CTL_OUT is all that they do. -/
theorem controlMessagesAreEmitted : Obligations.ControlMessagesAreEmitted :=
  fun _ => ⟨fun _ => rfl, rfl⟩

end Sys2Proof.Machine
end

section
/-! PROOFS. The sample decoder (spec/40_decoder.md): the value of each sample as a number, then the 24 bits of a group as
arithmetic on those values, then DECB by its own recursion, one complete group at a time. -/

namespace Sys2Proof

/-! The formulas of DECG on natural numbers (R120): no shift drops a bit of a byte. -/

theorem toNat_sample1 (b1 b2 : Byte) :
    (sample1 b1 b2).toNat = (b2.toNat <<< 4) ||| ((b1.toNat &&& 0xF0) >>> 4) := by
  have hmask : (b1 &&& 0xF0).toNat = b1.toNat &&& 0xF0 := BitVec.toNat_and b1 0xF0
  have hfits : b2.toNat <<< 4 < 2 ^ 12 := Nat.shiftLeft_lt b2.isLt
  rw [sample1, BitVec.toNat_or, BitVec.toNat_shiftLeft, BitVec.toNat_ushiftRight,
    BitVec.toNat_setWidth_of_le (by decide), BitVec.toNat_setWidth_of_le (by decide), hmask, Nat.mod_eq_of_lt hfits]

theorem toNat_sample2 (b0 b1 : Byte) :
    (sample2 b0 b1).toNat = ((b1.toNat &&& 0x0F) <<< 8) ||| b0.toNat := by
  have hmask : (b1 &&& 0x0F).toNat = b1.toNat &&& 0x0F := BitVec.toNat_and b1 0x0F
  have hfits : (b1.toNat &&& 0x0F) <<< 8 < 2 ^ 12 := Nat.shiftLeft_lt (Nat.and_lt_two_pow _ (by decide : 0x0F < 2 ^ 4))
  rw [sample2, BitVec.toNat_or, BitVec.toNat_shiftLeft, BitVec.toNat_setWidth_of_le (by decide),
    BitVec.toNat_setWidth_of_le (by decide), hmask, Nat.mod_eq_of_lt hfits]

/-! The two operands of each `|` have no bit in common, so `|` reads as `+` (R121). -/

theorem toNat_sample1_eq_add (b1 b2 : Byte) : (sample1 b1 b2).toNat = 16 * b2.toNat + b1.toNat / 16 := by
  have h1 : b1.toNat / 16 < 2 ^ 4 := by have := b1.isLt; omega
  have hhigh : (b1.toNat &&& 0xF0) >>> 4 = b1.toNat / 16 := by
    calc (b1.toNat &&& 0xF0) >>> 4
        _ = b1.toNat / 16 &&& (2 ^ 4 - 1) := by rw [Nat.shiftRight_and_distrib, Nat.shiftRight_eq_div_pow]; rfl
        _ = b1.toNat / 16 := by rw [Nat.and_two_pow_sub_one_eq_mod, Nat.mod_eq_of_lt h1]
  rw [toNat_sample1, hhigh, Nat.shiftLeft_eq, Nat.mul_comm]
  exact (Nat.two_pow_add_eq_or_of_lt h1 b2.toNat).symm

theorem toNat_sample2_eq_add (b0 b1 : Byte) : (sample2 b0 b1).toNat = 256 * (b1.toNat % 16) + b0.toNat := by
  have hlow : b1.toNat &&& 0x0F = b1.toNat % 16 := Nat.and_two_pow_sub_one_eq_mod b1.toNat 4
  rw [toNat_sample2, hlow, Nat.shiftLeft_eq, Nat.mul_comm]
  exact (Nat.two_pow_add_eq_or_of_lt b0.isLt (b1.toNat % 16)).symm

/-! What a group keeps (R122). -/

/-- The inverse of DECG: quotient and remainder of the two samples give the three bytes back (R122 (b)). -/
theorem decodeGroup_eq_iff (b0 b1 b2 b3 : Byte) (s1 s2 : Sample) :
    decodeGroup b0 b1 b2 b3 = (s1, s2) ↔
      b0.toNat = s2.toNat % 256 ∧ b1.toNat = 16 * (s1.toNat % 16) + s2.toNat / 256 ∧ b2.toNat = s1.toNat / 16 := by
  have h0 : b0.toNat < 256 := b0.isLt
  have h1 : b1.toNat < 256 := b1.isLt
  have hs2 : s2.toNat < 4096 := s2.isLt
  rw [decodeGroup, Prod.mk.injEq, ← BitVec.toNat_inj, ← BitVec.toNat_inj, toNat_sample1_eq_add, toNat_sample2_eq_add]
  omega

/-- The three quotients and remainders are bytes, so the inverse reaches every pair of samples (R122 (b)). -/
theorem decodeGroup_surjective (s1 s2 : Sample) (b3 : Byte) : ∃ b0 b1 b2 : Byte, decodeGroup b0 b1 b2 b3 = (s1, s2) := by
  have hs1 : s1.toNat < 4096 := s1.isLt
  have hs2 : s2.toNat < 4096 := s2.isLt
  refine ⟨.ofNat 8 s2.toNat, .ofNat 8 (16 * (s1.toNat % 16) + s2.toNat / 256), .ofNat 8 (s1.toNat / 16), ?_⟩
  rw [decodeGroup_eq_iff, BitVec.toNat_ofNat, BitVec.toNat_ofNat, BitVec.toNat_ofNat]
  exact ⟨rfl, Nat.mod_eq_of_lt (by omega), Nat.mod_eq_of_lt (by omega)⟩

/-- The inverse takes the two zero samples to three zero bytes (R122 (c)). -/
theorem decodeGroup_eq_zero_iff (b0 b1 b2 b3 : Byte) :
    decodeGroup b0 b1 b2 b3 = (0, 0) ↔ b0 = 0 ∧ b1 = 0 ∧ b2 = 0 := by
  rw [decodeGroup_eq_iff, ← BitVec.toNat_inj, ← BitVec.toNat_inj, ← BitVec.toNat_inj]
  rfl

/-- Settles O14: `b3` is no part of the definition; the rest follows from the inverse. -/
theorem decgKeepsTheOtherBits : Obligations.DecgKeepsTheOtherBits :=
  ⟨fun _ _ _ _ _ => rfl, decodeGroup_eq_iff, decodeGroup_surjective, decodeGroup_eq_zero_iff⟩

/-! DECB, by its recursion (R123): a complete group in front, or fewer than four bytes and no sample. -/

/-- What the recursion of DECB stops at is shorter than a group. -/
theorem length_lt_four_of_no_group {p : List Byte}
    (h : ∀ b0 b1 b2 b3 rest, p = b0 :: b1 :: b2 :: b3 :: rest → False) : p.length < 4 := by
  match p, h with
  | [], _ | [_], _ | [_, _], _ | [_, _, _], _ => simp
  | b0 :: b1 :: b2 :: b3 :: rest, h => exact (h b0 b1 b2 b3 rest rfl).elim

theorem decodeBuffer_eq_nil_of_no_group {p : List Byte}
    (h : ∀ b0 b1 b2 b3 rest, p = b0 :: b1 :: b2 :: b3 :: rest → False) : decodeBuffer p = [] :=
  decodeBuffer.eq_2 p h

theorem decodeBuffer_length (buf : List Byte) : (decodeBuffer buf).length = 2 * (buf.length / 4) := by
  induction buf using decodeBuffer.induct with
  | case1 b0 b1 b2 b3 rest ih =>
    simp only [decodeBuffer, List.length_cons, ih]
    omega
  | case2 p hshort =>
    rw [decodeBuffer_eq_nil_of_no_group hshort, Nat.div_eq_of_lt (length_lt_four_of_no_group hshort)]
    rfl

/-- Bytes that come later add samples at the end and change none (R125 (b)). -/
theorem decodeBuffer_isPrefix_append (p q : List Byte) : decodeBuffer p <+: decodeBuffer (p ++ q) := by
  induction p using decodeBuffer.induct with
  | case1 b0 b1 b2 b3 rest ih => simpa [decodeBuffer] using ih
  | case2 p hshort =>
    rw [decodeBuffer_eq_nil_of_no_group hshort]
    exact List.nil_prefix

/-- Group `g` decodes to the samples `2g` and `2g+1` (R124). -/
theorem decodeBuffer_getElem?_group {buf : List Byte} {g : Nat} {b0 b1 b2 b3 : Byte}
    (h0 : buf[4 * g]? = some b0) (h1 : buf[4 * g + 1]? = some b1) (h2 : buf[4 * g + 2]? = some b2)
    (h3 : buf[4 * g + 3]? = some b3) :
    (decodeBuffer buf)[2 * g]? = some (decodeGroup b0 b1 b2 b3).1 ∧
      (decodeBuffer buf)[2 * g + 1]? = some (decodeGroup b0 b1 b2 b3).2 := by
  induction buf using decodeBuffer.induct generalizing g with
  | case1 x0 x1 x2 x3 rest ih =>
    cases g with
    | zero =>
      cases h0; cases h1; cases h2; cases h3
      exact ⟨rfl, rfl⟩
    | succ g => exact ih h0 h1 h2 h3
  | case2 p hshort =>
    have hlast : 4 * g + 3 < p.length := (List.getElem?_eq_some_iff.mp h3).1
    have hlength : p.length < 4 := length_lt_four_of_no_group hshort
    omega

/-- Settles O16: the length, the growth at the end and the zeros by recursion, the split as O17 uses it. -/
theorem decbSplitsAtGroups : Obligations.DecbSplitsAtGroups :=
  ⟨decodeBuffer_length, fun _ q hgroups => decodeBuffer_append hgroups q, decodeBuffer_isPrefix_append,
    decodeBuffer_replicate_zero⟩

end Sys2Proof

namespace Sys2Proof.Machine

/-- Settles O15: DECB answers the decode of its operand, whose length and positions the recursion gives. -/
theorem decbReturnsTheGroupsInOrder : Obligations.DecbReturnsTheGroupsInOrder :=
  fun buf _ => ⟨decodeBuffer buf, rfl, decodeBuffer_length buf, fun _ _ _ _ _ => decodeBuffer_getElem?_group⟩

/-- Settles O13: DECG answers the two samples of its group, and their values are the formulas. -/
theorem decgReturnsTheFormulas : Obligations.DecgReturnsTheFormulas :=
  fun b0 b1 b2 _ _ => ⟨sample1 b1 b2, sample2 b0 b1, rfl, toNat_sample1 b1 b2, toNat_sample2 b0 b1⟩

end Sys2Proof.Machine
end

section
/-! PROOFS. The sequence tracker (spec/41_tracker.md): counters as the cycle of 65536 values that ADV walks and GAPLEN
measures, then PARSE and CLASSIFY as one equation each; every statement about CLASSIFY is a reading of its verdict. -/

namespace Sys2Proof

open Machine

/-! ADV (R142, R143). -/

theorem toNat_adv (x : Counter) : (adv x).toNat = (x.toNat + 1) % 65536 := BitVec.toNat_add x 1

theorem toNat_adv_iterate (n : Nat) (x : Counter) : (adv^[n] x).toNat = (x.toNat + n) % 65536 := by
  induction n with
  | zero => exact (Nat.mod_eq_of_lt x.isLt).symm
  | succ n ih => rw [Function.iterate_succ_apply', toNat_adv, ih, Nat.mod_add_mod, Nat.add_assoc]

/-- The inverse that R143 gives for ADV. -/
def retreat (x : Counter) : Counter := .ofNat 16 ((x.toNat + 65535) % 65536)

theorem toNat_retreat (x : Counter) : (retreat x).toNat = (x.toNat + 65535) % 65536 := by
  rw [retreat, BitVec.toNat_ofNat, Nat.mod_mod]

theorem adv_retreat (x : Counter) : adv (retreat x) = x := by
  have hx : x.toNat < 65536 := x.isLt
  apply BitVec.eq_of_toNat_eq
  rw [toNat_adv, toNat_retreat]
  omega

theorem toNat_adv_add_mod (x : Counter) : ((adv x).toNat + 65535) % 65536 = x.toNat := by
  have hx : x.toNat < 65536 := x.isLt
  rw [toNat_adv]
  omega

theorem retreat_adv (x : Counter) : retreat (adv x) = x :=
  BitVec.eq_of_toNat_eq ((toNat_retreat _).trans (toNat_adv_add_mod x))

theorem adv_bijective : Function.Bijective adv :=
  Function.bijective_iff_has_inverse.mpr ⟨retreat, retreat_adv, adv_retreat⟩

/-! GAPLEN (R144, R145). -/

theorem toNat_gaplen (r e : Counter) : (gaplen r e).toNat = (r.toNat + 65536 - e.toNat) % 65536 := by
  have he : e.toNat < 65536 := e.isLt
  rw [gaplen, BitVec.toNat_sub]
  omega

/-- ADV applied `n` times leads from `e` to `r` exactly when `n` is GAPLEN up to whole turns: the period of ADV (R143) and
the meaning of GAPLEN (R145) are both this. -/
theorem adv_iterate_eq_iff (n : Nat) (r e : Counter) : adv^[n] e = r ↔ n % 65536 = (gaplen r e).toNat := by
  have hr : r.toNat < 65536 := r.isLt
  have he : e.toNat < 65536 := e.isLt
  rw [← BitVec.toNat_inj, toNat_adv_iterate, toNat_gaplen]
  omega

theorem adv_iterate_period (x : Counter) : adv^[65536] x = x := by
  rw [adv_iterate_eq_iff, gaplen_self]
  rfl

theorem adv_iterate_gaplen (r e : Counter) : adv^[(gaplen r e).toNat] e = r :=
  (adv_iterate_eq_iff _ r e).mpr (Nat.mod_eq_of_lt (gaplen r e).isLt)

/-- No smaller number of applications of ADV leads from `e` to `r` (R145). -/
theorem adv_iterate_ne_of_lt_gaplen {r e : Counter} {k : Nat} (h : k < (gaplen r e).toNat) : adv^[k] e ≠ r := by
  have hk : k < 65536 := h.trans (gaplen r e).isLt
  rw [Ne, adv_iterate_eq_iff, Nat.mod_eq_of_lt hk]
  exact h.ne

theorem gaplen_add_gaplen {r e : Counter} (h : r ≠ e) : (gaplen r e).toNat + (gaplen e r).toNat = 65536 := by
  have hr : r.toNat < 65536 := r.isLt
  have he : e.toNat < 65536 := e.isLt
  have hne : r.toNat ≠ e.toNat := mt BitVec.eq_of_toNat_eq h
  rw [toNat_gaplen, toNat_gaplen]
  omega

theorem gaplen_adv_adv (r e : Counter) : gaplen (adv r) (adv e) = gaplen r e := add_sub_add_right_eq_sub r e 1

/-- A counter `k` below EXPECTED is `k` short of a whole turn ahead of it (R148). -/
theorem gaplen_sub_self (e k : Counter) : gaplen (e - k) e = -k := sub_sub_cancel_left e k

/-- A duplicate is one short of a whole turn ahead (R148). -/
theorem gaplen_adv_right (c : Counter) : gaplen c (adv c) = 65535 := sub_add_cancel_left c 1

theorem toNat_neg_ofNat {k : Nat} (hpos : 0 < k) (hlt : k < 65536) : (-BitVec.ofNat 16 k).toNat = 65536 - k := by
  rw [BitVec.toNat_neg, BitVec.toNat_ofNat]
  omega

/-- Settles O21: the inverse is `retreat`, and 65536 applications are one whole turn. -/
theorem advIsABijection : Obligations.AdvIsABijection :=
  ⟨adv_bijective, rfl, fun x => ⟨adv_retreat x, toNat_adv_add_mod x⟩, adv_iterate_period⟩

/-- Settles O22: the counting law and its minimality are the two directions of `adv_iterate_eq_iff`. -/
theorem gaplenCountsAdvances : Obligations.GaplenCountsAdvances :=
  ⟨gaplen_eq_zero_iff, fun r e => ⟨adv_iterate_gaplen r e, fun _ => adv_iterate_ne_of_lt_gaplen⟩,
    fun _ _ => gaplen_add_gaplen, gaplen_adv_adv⟩

end Sys2Proof

namespace Sys2Proof.Machine

/-! PARSE, ADV and GAPLEN as operations: the result field alone changes. -/

theorem exec_parse_of_validLength {d : List Byte} {s : State} (h : validLength d = true) :
    exec (.parse d) s = .next { s with ret := .parsed (typeOf d) (receivedOf d) (payloadOf d) } := if_pos h

theorem exec_adv (x : Counter) (s : State) : exec (.adv x) s = .next { s with ret := .counter (adv x) } := rfl

theorem exec_gaplen (r e : Counter) (s : State) :
    exec (.gaplen r e) s = .next { s with ret := .counter (gaplen r e) } := rfl

/-- Settles O18: three header bytes and at most 256 more make a datagram of legal length. -/
theorem parseSplitsADatagram : Obligations.ParseSplitsADatagram := by
  intro t lo hi p s hp
  have hvalid : validLength (t :: lo :: hi :: p) = true := by
    rw [validLength_iff]
    simp only [List.length_cons]
    omega
  exact ⟨_, toNat_receivedOf (t :: lo :: hi :: p), exec_parse_of_validLength hvalid⟩

/-- Settles O19: the value answered is `adv x`, whose number is `toNat_adv`. -/
theorem advAddsOneModulo : Obligations.AdvAddsOneModulo :=
  fun x s => ⟨adv x, toNat_adv x, exec_adv x s⟩

/-- Settles O20: the natural form is `toNat_gaplen`, and the integer form is the same residue. -/
theorem gaplenSubtractsModulo : Obligations.GaplenSubtractsModulo := by
  intro r e s
  have he : e.toNat < 65536 := e.isLt
  have hint : ((gaplen r e).toNat : Int) = ((r.toNat : Int) - (e.toNat : Int)) % 65536 := by
    rw [toNat_gaplen]
    omega
  exact ⟨gaplen r e, hint, toNat_gaplen r e, exec_gaplen r e s⟩

/-! CLASSIFY (R146, R147). -/

/-- CLASSIFY is one equation for both arms: the verdict is returned, and EXPECTED becomes ADV of the counter seen. -/
theorem exec_classify (r : Counter) (s : State) :
    exec (.classify r) s = .next { s with expected := adv r, ret := .verdict (s.verdictOn r) } := by
  change Host.Outcome.next ((s.classified r).withRet _) = _
  rw [State.classified_eq]
  rfl

theorem State.verdictOn_expected (s : State) : s.verdictOn s.expected = .inOrder := if_pos rfl

theorem State.verdictOn_of_ne {s : State} {r : Counter} (h : r ≠ s.expected) :
    s.verdictOn r = .gap (gaplen r s.expected) := if_neg h

theorem State.verdictOn_of_gaplen {s : State} {r : Counter} {n : BitVec 16} (h : gaplen r s.expected = n) (hn : n ≠ 0) :
    s.verdictOn r = .gap n := by
  have hne : r ≠ s.expected := fun heq => hn (h.symm.trans ((gaplen_eq_zero_iff _ _).mpr heq))
  rw [State.verdictOn_of_ne hne, h]

/-- The comparison with EXPECTED is a test of GAPLEN for 0 (R147). -/
theorem State.verdictOn_eq_ite_gaplen (s : State) (r : Counter) :
    s.verdictOn r = if gaplen r s.expected = 0 then .inOrder else .gap (gaplen r s.expected) :=
  if_congr (gaplen_eq_zero_iff r s.expected).symm rfl rfl

/-- Settles O26: both parts are a non-zero GAPLEN, one and `k` short of a whole turn. -/
theorem duplicatesAndLateCountersAreLargeGaps : Obligations.DuplicatesAndLateCountersAreLargeGaps := by
  refine ⟨fun c s hexp => ?duplicate, fun k s hpos hlt => ?late⟩
  case duplicate =>
    have hgap : gaplen c s.expected = 65535 := hexp ▸ gaplen_adv_right c
    rw [exec_classify, State.verdictOn_of_gaplen hgap (by decide)]
  case late =>
    have hn : (-BitVec.ofNat 16 k).toNat = 65536 - k := toNat_neg_ofNat hpos hlt
    have hnonzero : -BitVec.ofNat 16 k ≠ 0#16 := by
      intro hzero
      rw [hzero, BitVec.toNat_zero] at hn
      omega
    have hr : ((s.expected - BitVec.ofNat 16 k).toNat : Int) = ((s.expected.toNat : Int) - k) % 65536 := by
      rw [BitVec.toNat_sub, BitVec.toNat_ofNat]
      omega
    refine ⟨s.expected - BitVec.ofNat 16 k, -BitVec.ofNat 16 k, hr, hn, ?_⟩
    rw [exec_classify, State.verdictOn_of_gaplen (gaplen_sub_self _ _) hnonzero]
    rfl

/-- Settles O23: the two values of the verdict, put into the equation of CLASSIFY. -/
theorem classifyComparesAndAdvances : Obligations.ClassifyComparesAndAdvances := by
  refine fun r s => ⟨fun heq => ?inOrder, fun hne => ⟨mt (gaplen_eq_zero_iff r s.expected).mp hne, ?gap⟩⟩
  case inOrder => rw [heq, exec_classify, State.verdictOn_expected]
  case gap => rw [exec_classify, State.verdictOn_of_ne hne]

/-- Settles O24: the one guard of each arm, taken and not taken. -/
theorem classifyArmsRunWhereSelected : Obligations.ClassifyArmsRunWhereSelected :=
  fun _ _ => ⟨fun heq => ⟨if_pos heq, if_pos heq⟩, fun hne => ⟨if_neg hne, if_neg hne⟩⟩

/-- Settles O25: the equation of CLASSIFY with the verdict read off GAPLEN. -/
theorem classifyIsOneFormula : Obligations.ClassifyIsOneFormula :=
  fun r s => ⟨_, exec_classify r s, rfl, congrArg Ret.verdict (s.verdictOn_eq_ite_gaplen r)⟩

end Sys2Proof.Machine
end

section
/-! PROOFS. The invariant of the block (spec/42_reassembler.md R166, R167; spec/43_session.md R195). What each operation
that an input event or the synthesizer can start does to `State.Inv` is one lemma; `step_cases` then gives O58, and the
order of selection O59. -/

namespace Sys2Proof.Machine

/-! The packets the block has still to take, held or to arrive, as one sequence (R39, R219). -/

/-- Every packet held, then every packet to arrive, in arrival order. -/
def State.backlog (s : State) : List Packet := s.held ++ s.input.flatten

theorem State.onlyEvents_iff (s : State) : s.OnlyEvents ↔ ∀ p ∈ s.backlog, p.isEvent = true := by
  simp only [State.OnlyEvents, State.backlog, List.forall_mem_append, List.forall_mem_flatten]

theorem State.noReset_iff (s : State) : s.NoReset ↔ ∀ p ∈ s.backlog, p.isReset = false := by
  simp only [State.NoReset, State.backlog, List.forall_mem_append, List.forall_mem_flatten]

/-- Arrival moves packets within the backlog and loses none. -/
@[simp] theorem State.backlog_arrive (s : State) : s.arrive.backlog = s.backlog := by
  rw [State.arrive_eq]
  cases hinput : s.input <;> simp [State.backlog, hinput]

theorem State.backlog_of_held {s : State} {p : Packet} {rest : List Packet} (h : s.held = p :: rest) :
    s.backlog = p :: ({ s with held := rest } : State).backlog := by
  simp [State.backlog, h]

/-- A RESET that is accepted adds no packet to the backlog (R222, R240). -/
theorem State.backlog_atReset_subset (s : State) : s.atReset.backlog ⊆ s.backlog := by
  intro p hp
  simp only [State.backlog, State.atReset, flatten_putBack, List.mem_append] at hp ⊢
  rcases hp with hbefore | hafter | hinput
  · exact .inl ((List.takeWhile_prefix _).subset hbefore)
  · exact .inl ((List.dropWhile_suffix _).subset (List.mem_of_mem_tail hafter))
  · exact .inr hinput

theorem State.OnlyEvents.of_subset {s t : State} (h : s.OnlyEvents) (hsub : t.backlog ⊆ s.backlog) : t.OnlyEvents := by
  rw [State.onlyEvents_iff] at h ⊢
  exact fun p hp => h p (hsub hp)

/-! What is left to append (R168, R169). -/

section
variable {s : State}

theorem State.pendingBytes_of_idle (h : s.gsState = .idle) : s.pendingBytes = 0 := by simp [State.pendingBytes, h]

theorem State.pendingBytes_of_zfill (h : s.gsState = .zfill) :
    s.pendingBytes = 256 * s.zrem.toNat + s.plen.toNat := by simp [State.pendingBytes, h]

theorem State.pendingBytes_of_payload (h : s.gsState = .payload) : s.pendingBytes = s.plen.toNat := by
  simp [State.pendingBytes, h]

end

/-- A count of blocks that is not 0 drops by one without a borrow (R168). -/
theorem toNat_zrem_sub_one {z : BitVec 16} (h : z ≠ 0) : (z - 1).toNat = z.toNat - 1 := by
  have hpos : z.toNat ≠ 0 := fun hzero => h (BitVec.eq_of_toNat_eq hzero)
  bv_omega

/-- The count is tested after it was decremented (R168). -/
theorem State.zeroFillBlock_gsState_of_zfill {s : State} (h : s.gsState = .zfill) :
    s.zeroFillBlock.gsState = if s.zeroFillBlock.zrem = 0 then .payload else .zfill := by
  rw [State.zeroFillBlock_gsState, h]
  rfl

/-- GS.ZFILL moves one block from what is left to what is appended (R168). -/
theorem State.wptr_add_pendingBytes_zeroFillBlock {s : State} (hgs : s.gsState = .zfill) (hzrem : s.zrem ≠ 0) :
    s.zeroFillBlock.wptr + s.zeroFillBlock.pendingBytes = s.wptr + s.pendingBytes := by
  have hdrop : (s.zrem - 1).toNat = s.zrem.toNat - 1 := toNat_zrem_sub_one hzrem
  have hpos : s.zrem.toNat ≠ 0 := fun hzero => hzrem (BitVec.eq_of_toNat_eq hzero)
  rw [State.pendingBytes_of_zfill hgs]
  have hgs' := State.zeroFillBlock_gsState_of_zfill hgs
  split_ifs at hgs' with hlast
  · have hzero : (s.zrem - 1).toNat = 0 := congrArg BitVec.toNat hlast
    rw [State.pendingBytes_of_payload hgs', State.zeroFillBlock_wptr, State.zeroFillBlock_plen]
    omega
  · rw [State.pendingBytes_of_zfill hgs', State.zeroFillBlock_wptr, State.zeroFillBlock_zrem, State.zeroFillBlock_plen]
    omega

/-- With PLEN in its range PBUF has all the bytes that GS.PAYLOAD appends (R25, R169). -/
theorem State.length_pbufBytes_of_le {s : State} (h : s.plen.toNat ≤ 256) : s.pbufBytes.length = s.plen.toNat := by
  rw [s.length_pbufBytes, Nat.min_eq_left h]

/-- PLEN holds every legal length of a payload (R25, R167). -/
theorem State.toNat_plen_loadSynthesizer {p : List Byte} (h : payloadOk p = true) (s : State) (v : Verdict) :
    (s.loadSynthesizer p v).plen.toNat = p.length := by
  rw [payloadOk_iff] at h
  rw [State.loadSynthesizer_plen, BitVec.toNat_ofNat, Nat.mod_eq_of_lt (by omega)]

/-- What GS.LOAD leaves to append is what its capacity test asked for (R167). -/
theorem State.pendingBytes_loadSynthesizer {p : List Byte} (h : payloadOk p = true) (s : State) (v : Verdict) :
    (s.loadSynthesizer p v).pendingBytes = unitBytes p v := by
  rw [unitBytes_eq]
  by_cases hcount : v.count = 0
  · rw [State.pendingBytes_of_payload (by simp [hcount]), State.toNat_plen_loadSynthesizer h, hcount]
    simp
  · rw [State.pendingBytes_of_zfill (by rw [State.loadSynthesizer_gsState, if_neg hcount]),
      State.toNat_plen_loadSynthesizer h, State.loadSynthesizer_zrem]

/-! The data path while FAULT is 0. -/

/-- SAMPLES is empty until Stopped (R30). -/
theorem State.DataInv.samples_eq_nil {s : State} (h : s.DataInv) (hsession : s.session ≠ .stopped) : s.samples = [] := by
  rw [h.samplesAtStop, if_neg hsession]

/-- In Receiving three of the clauses hold by the state of the session alone. -/
theorem State.DataInv.of_receiving {s : State} (hsession : s.session = .receiving) (hsamples : s.samples = [])
    (hbelow : ∀ c ∈ s.abuf, c.1 < s.wptr) (hplen : s.plen.toNat ≤ 256) (hzfill : s.gsState = .zfill → s.zrem ≠ 0)
    (hpayload : s.gsState = .payload → s.zrem = 0) (hcapacity : s.fits s.pendingBytes = true) : s.DataInv where
  belowWptr := hbelow
  plenBound := hplen
  zfillCount := hzfill
  payloadCount := hpayload
  busyReceiving := fun _ => hsession
  capacity := hcapacity
  samplesAtStop := by simp [hsession, hsamples]
  idleEmpty := by simp [hsession]

section
variable {s : State}

/-- A busy synthesizer works for a session in Receiving, whose SAMPLES are still empty (R166, R30). -/
theorem State.DataInv.receiving_of_busy (h : s.DataInv) (hbusy : s.gsState ≠ .idle) :
    s.session = .receiving ∧ s.samples = [] := by
  have hsession : s.session = .receiving := h.busyReceiving hbusy
  exact ⟨hsession, h.samples_eq_nil (by simp [hsession])⟩

/-- The capacity that was tested in advance covers every micro-step, for what it appends is no longer owed (R167). -/
theorem State.DataInv.capacity_of_conserved {t : State} (h : s.DataInv) (hparams : t.params = s.params)
    (hsum : t.wptr + t.pendingBytes = s.wptr + s.pendingBytes) : t.fits t.pendingBytes = true :=
  (State.fits_congr hparams hsum).trans h.capacity

theorem State.DataInv.zeroFillBlock (h : s.DataInv) (hgs : s.gsState = .zfill) : s.zeroFillBlock.DataInv := by
  obtain ⟨hsession, hsamples⟩ := h.receiving_of_busy (by simp [hgs])
  have hbelow : ∀ c ∈ s.zeroFillBlock.abuf, c.1 < s.zeroFillBlock.wptr := fun c hc =>
    Nat.lt_add_right 256 (Memory.below_fillZero h.belowWptr c hc)
  have hfilled : s.zeroFillBlock.wptr + s.zeroFillBlock.pendingBytes = s.wptr + s.pendingBytes :=
    State.wptr_add_pendingBytes_zeroFillBlock hgs (h.zfillCount hgs)
  have hcapacity : s.zeroFillBlock.fits s.zeroFillBlock.pendingBytes = true :=
    h.capacity_of_conserved rfl hfilled
  refine .of_receiving hsession hsamples hbelow h.plenBound ?zfill ?payload hcapacity
  case zfill =>
    rw [State.zeroFillBlock_gsState_of_zfill hgs]
    split_ifs with hlast
    · exact nofun
    · exact fun _ => hlast
  case payload =>
    rw [State.zeroFillBlock_gsState_of_zfill hgs]
    split_ifs with hlast
    · exact fun _ => hlast
    · exact nofun

theorem State.DataInv.flushPayload (h : s.DataInv) (hgs : s.gsState = .payload) : s.flushPayload.DataInv := by
  obtain ⟨hsession, hsamples⟩ := h.receiving_of_busy (by simp [hgs])
  have hflushed : s.flushPayload.wptr + s.flushPayload.pendingBytes = s.wptr + s.pendingBytes := by
    rw [State.pendingBytes_of_payload hgs, State.pendingBytes_of_idle rfl, State.flushPayload_wptr,
      State.length_pbufBytes_of_le h.plenBound, Nat.add_zero]
  have hbelow : ∀ c ∈ s.flushPayload.abuf, c.1 < s.flushPayload.wptr :=
    Memory.below_write (fun c hc => Nat.lt_add_right _ (h.belowWptr c hc)) (Nat.le_refl _)
  exact .of_receiving hsession hsamples hbelow h.plenBound (by simp) (by simp)
    (h.capacity_of_conserved rfl hflushed)

theorem State.DataInv.loadSynthesizer {p : List Byte} {v : Verdict} (h : s.DataInv) (hsession : s.session = .receiving)
    (hp : payloadOk p = true) (hfits : s.fits (unitBytes p v) = true) : (s.loadSynthesizer p v).DataInv := by
  have hplen : (s.loadSynthesizer p v).plen.toNat ≤ 256 := by
    rw [State.toNat_plen_loadSynthesizer hp]
    exact (payloadOk_iff p).mp hp
  have hcapacity : (s.loadSynthesizer p v).fits (s.loadSynthesizer p v).pendingBytes = true := by
    rw [State.pendingBytes_loadSynthesizer hp]
    exact hfits
  refine .of_receiving hsession (h.samples_eq_nil (by simp [hsession])) h.belowWptr hplen ?zfill ?payload hcapacity
  case zfill => by_cases hcount : v.count = 0 <;> simp [hcount]
  case payload => by_cases hcount : v.count = 0 <;> simp [hcount]

theorem State.DataInv.enterReceiving (h : s.DataInv) (hsession : s.session ≠ .stopped) : s.enterReceiving.DataInv :=
  .of_receiving rfl (h.samples_eq_nil hsession) h.belowWptr h.plenBound h.zfillCount h.payloadCount h.capacity

theorem State.DataInv.openSession (h : s.DataInv) (hidle : s.gsState = .idle) (hsession : s.session = .idle)
    (rc : Byte) : (s.openSession rc).DataInv where
  belowWptr := by simp
  plenBound := h.plenBound
  zfillCount := h.zfillCount
  payloadCount := h.payloadCount
  busyReceiving := fun hbusy => absurd hidle hbusy
  capacity := by
    rw [State.pendingBytes_of_idle (s := s.openSession rc) hidle]
    exact State.fits_zero_of_wptr rfl
  samplesAtStop := h.samples_eq_nil (by simp [hsession])
  idleEmpty := by simp

theorem State.DataInv.stopSequence (h : s.DataInv) (hidle : s.gsState = .idle) : s.stopSequence.DataInv where
  belowWptr := h.belowWptr
  plenBound := h.plenBound
  zfillCount := h.zfillCount
  payloadCount := h.payloadCount
  busyReceiving := fun hbusy => absurd hidle hbusy
  capacity := h.capacity
  samplesAtStop := rfl
  idleEmpty := by simp

end

/-! The invariant: first what it does not read, then one lemma per operation. -/

section
variable {s : State}

/-- PBUF, the result and the index of the free values are no part of the invariant, and of the queue and of DBUF it asks one
thing each. -/
theorem State.Inv.frame (h : s.Inv) {held : List Packet} {input : List (List Packet)} {dbuf : List Byte}
    (hqueue : ({ s with held := held, input := input } : State).OnlyEvents) (hdbuf : dbuf.length ≤ 259)
    (pbuf : Vector Byte 256) (ret : Ret) (freeCtr : Nat) :
    ({ s with held := held, input := input, dbuf := dbuf, pbuf := pbuf, ret := ret, freeCtr := freeCtr } : State).Inv where
  canonical := h.canonical
  onlyEvents := hqueue
  dbufRoom := hdbuf
  messages := h.messages
  faultOnlyFinite := h.faultOnlyFinite
  data := fun hfault => { h.data hfault with }

theorem State.Inv.withRet (h : s.Inv) (v : Ret) : (s.withRet v).Inv := h.frame h.onlyEvents h.dbufRoom _ _ _

theorem State.Inv.arrive (h : s.Inv) : s.arrive.Inv := by
  have hqueue : s.arrive.OnlyEvents := h.onlyEvents.of_subset (by simp)
  rw [State.arrive_eq] at hqueue ⊢
  exact h.frame hqueue h.dbufRoom _ _ _

theorem State.Inv.hold (h : s.Inv) {p : Packet} (hp : p.isEvent = true) : (s.hold p).Inv := by
  have hheld : ∀ q ∈ s.held ++ [p], q.isEvent = true := by
    simpa [or_imp, forall_and, hp] using h.onlyEvents.1
  exact h.frame ⟨hheld, h.onlyEvents.2⟩ h.dbufRoom _ _ _

/-- Whether its operation is run or refused, the packet that is taken is an event and leaves the queue (R171). -/
theorem State.Inv.take (h : s.Inv) {p : Packet} {rest : List Packet} (hheld : s.held = p :: rest) :
    p.isEvent = true ∧ ({ s with held := rest } : State).Inv := by
  have hsub : ({ s with held := rest } : State).backlog ⊆ s.backlog := by
    rw [State.backlog_of_held hheld]
    exact List.subset_cons_self _ _
  exact ⟨h.onlyEvents.1 p (by simp [hheld]), h.frame (h.onlyEvents.of_subset hsub) h.dbufRoom _ _ _⟩

theorem State.Inv.expireDbuf (h : s.Inv) : s.expireDbuf.Inv :=
  h.frame h.onlyEvents (List.length_take_le _ _) _ _ _

theorem State.Inv.atReset (h : s.Inv) : s.atReset.Inv :=
  h.frame (h.onlyEvents.of_subset s.backlog_atReset_subset) h.dbufRoom _ _ _

/-- RESET leaves the reset state, PBUF and the environment's part aside (R38, R240). -/
theorem State.Inv.resetBlock (h : s.Inv) : s.resetBlock.Inv :=
  (resetStateMeetsTheInvariant s.params s.input h.onlyEvents.2).frame ⟨by simp [State.reset], h.onlyEvents.2⟩
    (Nat.zero_le _) _ _ _

/-- While FAULT is 1 the free values of the data path meet all that is asked of it (U16). -/
theorem State.Inv.scramble (h : s.Inv) (hfault : s.fault = true) : s.scramble.Inv :=
  { h with
    canonical := Memory.wf_write _ _ rfl
    data := fun hnot => by simp [hfault] at hnot }

/-- An overflow in Receiving: the capacity is finite, or everything would fit (R32, R217). -/
theorem State.Inv.raise_bufferOverflow (h : s.Inv) {n : Nat} (hsession : s.session = .receiving)
    (hfull : s.fits n = false) : (s.raise .bufferOverflow).Inv :=
  { h with
    canonical := (State.overflowedTo_raise hfull).canonical
    faultOnlyFinite := fun _ => ⟨(State.overflowedTo_raise hfull).finite, hsession⟩
    data := fun hnot => by simp at hnot }

theorem State.Inv.zeroFillBlock (h : s.Inv) (hfault : s.fault = false) (hgs : s.gsState = .zfill) :
    s.zeroFillBlock.Inv :=
  { h with
    canonical := Memory.wf_fillZero _ _ h.canonical
    data := fun _ => (h.data hfault).zeroFillBlock hgs }

theorem State.Inv.flushPayload (h : s.Inv) (hfault : s.fault = false) (hgs : s.gsState = .payload) :
    s.flushPayload.Inv :=
  { h with
    canonical := Memory.wf_write _ _ h.canonical
    data := fun _ => (h.data hfault).flushPayload hgs }

theorem State.Inv.openSession (h : s.Inv) (hfault : s.fault = false) (hidle : s.gsState = .idle)
    (hsession : s.session = .idle) (rc : Byte) : (s.openSession rc).Inv :=
  { h with
    canonical := rfl
    messages := by simp [h.messages, hsession, messagesOf]
    faultOnlyFinite := fun hset => by simp [hfault] at hset
    data := fun _ => (h.data hfault).openSession hidle hsession rc }

theorem State.Inv.stopSequence (h : s.Inv) (hfault : s.fault = false) (hidle : s.gsState = .idle)
    (hsession : s.session = .started ∨ s.session = .receiving) : s.stopSequence.Inv :=
  { h with
    messages := by rcases hsession with hs | hs <;> simp [h.messages, hs, messagesOf]
    faultOnlyFinite := fun hset => by simp [hfault] at hset
    data := fun _ => (h.data hfault).stopSequence hidle }

theorem State.Inv.enterReceiving (h : s.Inv) (hfault : s.fault = false)
    (hsession : s.session = .started ∨ s.session = .receiving) : s.enterReceiving.Inv :=
  { h with
    messages := by rcases hsession with hs | hs <;> simp [h.messages, hs, messagesOf]
    faultOnlyFinite := fun hset => by simp [hfault] at hset
    data := fun _ => (h.data hfault).enterReceiving (by rcases hsession with hs | hs <;> simp [hs]) }

/-- EXPECTED is bound in Idle only (R38). -/
theorem State.Inv.classified (h : s.Inv) (hsession : s.session = .receiving) (r : Counter) : (s.classified r).Inv := by
  rw [State.classified_eq]
  exact { h with data := fun hfault => { h.data hfault with idleEmpty := by simp [hsession] } }

theorem State.Inv.loadSynthesizer {p : List Byte} {v : Verdict} (h : s.Inv) (hfault : s.fault = false)
    (hsession : s.session = .receiving) (hp : payloadOk p = true) (hfits : s.fits (unitBytes p v) = true) :
    (s.loadSynthesizer p v).Inv :=
  { h with data := fun _ => (h.data hfault).loadSynthesizer hsession hp hfits }

theorem State.Inv.receiveValid {d : List Byte} (h : s.Inv) (hfault : s.fault = false) (hsession : s.session = .receiving)
    (hvalid : validLength d = true) : (s.receiveValid d).Inv := by
  have hclassified : (s.classified (receivedOf d)).Inv := h.classified hsession _
  rcases s.receiveValid_cases d with ⟨hfits, heq⟩ | ⟨hfull, heq⟩
  · rw [heq]
    exact (hclassified.loadSynthesizer (by simpa using hfault) (by simpa using hsession) (payloadOk_payloadOf hvalid)
      hfits).withRet _
  · rw [heq]
    exact hclassified.raise_bufferOverflow (by simpa using hsession) hfull

theorem State.Inv.acceptDatagram (h : s.Inv) (hopen : s.sessionOpen = true) (d : List Byte) :
    (s.acceptDatagram d).Inv := by
  obtain ⟨hfault, hsession⟩ := s.sessionOpen_iff.mp hopen
  have hreceiving : s.enterReceiving.Inv := h.enterReceiving hfault hsession
  rw [State.acceptDatagram_eq]
  refine State.Inv.expireDbuf ?_
  unfold State.acceptedBy
  split
  · exact hreceiving.withRet _
  · next hshort =>
    split
    · exact hreceiving.withRet _
    · next hover => exact hreceiving.receiveValid hfault rfl (by simp [validLength, hshort, hover])

end

/-! The input events. -/

/-- What an event packet reads as is an input event (R96). -/
theorem isInputEvent_of_decode {p : Packet} {i : Instr} (hp : p.isEvent = true) (h : decode p = .ok i) :
    i.isInputEvent = true := by
  cases p with
  | evt code rc d => simp only [decode] at h; split at h <;> cases h <;> rfl
  | _ => cases hp

section
variable {s t : State}

theorem execStart_keeps_inv {rc : Byte} (h : s.Inv) (hexec : execStart rc s = .next t) : t.Inv := by
  rcases execStart_cases hexec with ⟨-, rfl⟩ | ⟨-, -, rfl⟩ | ⟨-, -, -, rfl⟩ | ⟨hhold, -, hstart, rfl⟩
  · exact h.hold rfl
  · exact h.withRet _
  · exact h.withRet _
  · obtain ⟨hfault, hsession⟩ := s.startable_iff.mp hstart
    exact (h.openSession hfault (State.gsState_idle_of_mustHold hhold hfault) hsession rc).withRet _

theorem execDgram_keeps_inv {d : List Byte} (h : s.Inv) (hexec : execDgram d s = .next t) : t.Inv := by
  rcases execDgram_cases hexec with ⟨-, rfl⟩ | ⟨-, -, rfl⟩ | ⟨-, hopen, rfl⟩
  · exact h.hold rfl
  · exact h.withRet _
  · exact h.acceptDatagram hopen d

/-- The three outcomes that TIMEOUT and CANCEL share (R186, R187). -/
theorem inv_of_stop_cases {p : Packet} (h : s.Inv) (hp : p.isEvent = true)
    (hcases : (s.mustHold = true ∧ t = s.hold p) ∨
      (s.mustHold = false ∧ s.sessionOpen = false ∧ t = s.withRet (.result .badState)) ∨
      (s.mustHold = false ∧ s.sessionOpen = true ∧ t = s.stopSequence)) : t.Inv := by
  rcases hcases with ⟨-, rfl⟩ | ⟨-, -, rfl⟩ | ⟨hhold, hopen, rfl⟩
  · exact h.hold hp
  · exact h.withRet _
  · obtain ⟨hfault, hsession⟩ := s.sessionOpen_iff.mp hopen
    exact h.stopSequence hfault (State.gsState_idle_of_mustHold hhold hfault) hsession

/-- Every input event keeps the invariant, in whatever state it is run. -/
theorem exec_keeps_inv {i : Instr} (hi : i.isInputEvent = true) (h : s.Inv) (hexec : exec i s = .next t) : t.Inv := by
  cases i with
  | reset => exact next_inj hexec ▸ h.resetBlock
  | start rc => exact execStart_keeps_inv h hexec
  | dgram d => exact execDgram_keeps_inv h hexec
  | timeout => exact inv_of_stop_cases h rfl (execTimeout_cases hexec)
  | cancel => exact inv_of_stop_cases h rfl (execCancel_cases hexec)
  | _ => cases hi

end

/-- Settles O58: a step is a RESET, a micro-step, an event taken from the queue, or nothing but arrival, and each keeps the
invariant. -/
theorem stepKeepsTheInvariant : Obligations.StepKeepsTheInvariant := by
  intro s t h hstep
  have harrived : s.arrive.Inv := h.arrive
  rcases step_cases hstep with ⟨-, rfl⟩ | ⟨-, hfault, -, hexec⟩ | ⟨-, hfault, -, hexec⟩ |
    ⟨-, -, ⟨-, hfault, rfl⟩ | ⟨-, -, rfl⟩ | ⟨p, rest, i, hheld, hdecode, hexec⟩ | ⟨p, rest, c, hheld, -, rfl⟩⟩
  · exact harrived.atReset.resetBlock
  · obtain ⟨hgs, -, rfl⟩ := execGsZfill_cases hexec
    exact harrived.zeroFillBlock (by simpa using hfault) hgs
  · obtain ⟨hgs, rfl⟩ := execGsPayload_cases hexec
    exact harrived.flushPayload (by simpa using hfault) hgs
  · exact harrived.scramble (by simpa using hfault)
  · exact harrived
  · obtain ⟨hevent, htaken⟩ := harrived.take hheld
    exact exec_keeps_inv (isInputEvent_of_decode hevent hdecode) htaken hexec
  · exact (harrived.take hheld).2.withRet _

/-! Progress: what a step can select in a state that meets the invariant has a next state. -/

/-- The selection leads to a next state. -/
def Pick.Answers : Pick → Prop
  | .run i s => ∃ t, exec i s = .next t
  | .settle _ => True
  | .stop _ => False

theorem step_answers_of_pick {s : State} (h : s.arrive.pick.Answers) : ∃ t, step s = .next t := by
  unfold step
  cases hpick : s.arrive.pick with
  | run i u => rw [hpick] at h; exact h
  | settle u => exact ⟨u, rfl⟩
  | stop r => rw [hpick] at h; exact h.elim

/-- The order of selection, a busy synthesizer in GS_ZFILL (R166). -/
theorem State.pick_of_zfill {s : State} (hreset : s.resetPending = false) (hfault : s.fault = false)
    (hgs : s.gsState = .zfill) : s.pick = .run .gsZfill s := by simp [State.pick, hreset, hfault, hgs]

/-- The order of selection, a busy synthesizer in GS_PAYLOAD (R166). -/
theorem State.pick_of_payload {s : State} (hreset : s.resetPending = false) (hfault : s.fault = false)
    (hgs : s.gsState = .payload) : s.pick = .run .gsPayload s := by simp [State.pick, hreset, hfault, hgs]

theorem exec_gsZfill {s : State} (hgs : s.gsState = .zfill) (hzrem : s.zrem ≠ 0) :
    exec .gsZfill s = .next s.zeroFillBlock := if_pos ⟨hgs, hzrem⟩

theorem exec_gsPayload {s : State} (hgs : s.gsState = .payload) : exec .gsPayload s = .next s.flushPayload := if_pos hgs

/-- An input event has a result in every state (R210). -/
theorem exec_answers_of_isInputEvent {i : Instr} (hi : i.isInputEvent = true) (s : State) : ∃ t, exec i s = .next t := by
  cases i with
  | reset => exact ⟨_, rfl⟩
  | start rc => simp only [exec, execStart]; split_ifs <;> exact ⟨_, rfl⟩
  | dgram d => simp only [exec, execDgram]; split_ifs <;> exact ⟨_, rfl⟩
  | timeout => simp only [exec, execTimeout]; split_ifs <;> exact ⟨_, rfl⟩
  | cancel => simp only [exec, execCancel]; split_ifs <;> exact ⟨_, rfl⟩
  | _ => cases hi

/-- An event packet is an input event or has a reserved code (R96, R107). -/
theorem decode_of_isEvent {p : Packet} (hp : p.isEvent = true) :
    (∃ i, decode p = .ok i ∧ i.isInputEvent = true) ∨ ∃ c, decode p = .error (.reservedEventCode c) := by
  cases p with
  | evt code rc d =>
    by_cases hcode : 5 ≤ code.toNat
    · exact .inr ⟨code, decode_evt_of_reserved hcode rc d⟩
    · have hsome : ∃ i, decode (.evt code rc d) = .ok i := by
        have hcodes : code.toNat = 0 ∨ code.toNat = 1 ∨ code.toNat = 2 ∨ code.toNat = 3 ∨ code.toNat = 4 := by omega
        rcases hcodes with h | h | h | h | h <;> simp [decode, h]
      obtain ⟨i, hi⟩ := hsome
      exact .inl ⟨i, hi, isInputEvent_of_decode hp hi⟩
  | _ => cases hp

theorem State.takeHeld_answers {s : State} (h : s.OnlyEvents) : s.takeHeld.Answers := by
  cases hheld : s.held with
  | nil =>
    simp only [State.takeHeld, hheld]
    split_ifs <;> trivial
  | cons p rest =>
    rcases decode_of_isEvent (h.1 p (by simp [hheld])) with ⟨i, hdecode, hi⟩ | ⟨c, hdecode⟩
    · rw [State.takeHeld_of_decode hheld hdecode]
      exact exec_answers_of_isInputEvent hi _
    · rw [State.takeHeld_of_reserved hheld hdecode]
      trivial

theorem State.pick_answers {s : State} (h : s.Inv) : s.pick.Answers := by
  cases hreset : s.resetPending with
  | true =>
    simp only [State.pick, hreset, if_true]
    exact ⟨_, rfl⟩
  | false =>
    cases hfault : s.fault with
    | true =>
      rw [State.pick_eq_takeHeld hreset (.inl hfault)]
      exact State.takeHeld_answers h.onlyEvents
    | false =>
      cases hgs : s.gsState with
      | idle =>
        rw [State.pick_eq_takeHeld hreset (.inr hgs)]
        exact State.takeHeld_answers h.onlyEvents
      | zfill =>
        rw [State.pick_of_zfill hreset hfault hgs]
        exact ⟨_, exec_gsZfill hgs ((h.data hfault).zfillCount hgs)⟩
      | payload =>
        rw [State.pick_of_payload hreset hfault hgs]
        exact ⟨_, exec_gsPayload hgs⟩

/-- Settles O59: arrival keeps the invariant, under which every selection answers. -/
theorem invariantStatesNeverStop : Obligations.InvariantStatesNeverStop :=
  fun _ h => step_answers_of_pick (State.pick_answers h.arrive)

end Sys2Proof.Machine
end

section
/-! PROOFS. The operations of the reassembler (spec/42_reassembler.md R160 to R169): one equation per operation and outcome,
and where an append leaves the bytes of ABUF alone; each statement reads both off. Then the events that wait (R171). -/

namespace Sys2Proof.Machine

/-! Outside the bytes it writes a write changes nothing. -/

theorem Memory.get_write_outside {m : Memory} {a x : Nat} {v : List Byte} (h : x < a ∨ a + v.length ≤ x) :
    Memory.get (m.write a v) x = m.get x := by
  rw [Memory.get_write, if_neg (by omega)]

theorem Memory.get_fillZero_outside {m : Memory} {a n x : Nat} (h : x < a ∨ a + n ≤ x) :
    Memory.get (m.fillZero a n) x = m.get x := by
  rw [Memory.get_fillZero, if_neg (by omega)]

theorem State.get_abuf_reassemble_outside {s : State} {p : List Byte} {v : Verdict} {a : Nat}
    (h : a < s.wptr ∨ (s.reassemble p v).wptr ≤ a) : (s.reassemble p v).abuf.get a = s.abuf.get a := by
  rw [State.reassemble_wptr] at h
  rw [State.reassemble_abuf, Memory.get_write_outside (by omega), Memory.get_fillZero_outside (by omega)]

/-! A fill of no blocks, and two fills in a row. -/

@[simp] theorem Memory.fillZero_zero (m : Memory) (a : Nat) : m.fillZero a 0 = m := by
  refine List.filter_eq_self.mpr fun c _ => ?_
  simpa using Nat.lt_or_ge c.1 a

theorem Memory.fillZero_fillZero (m : Memory) (a n k : Nat) :
    Memory.fillZero (m.fillZero a n) (a + n) k = m.fillZero a (n + k) := by
  unfold Memory.fillZero
  rw [List.filter_filter]
  refine List.filter_congr fun c _ => ?_
  rw [← Bool.decide_or, ← Bool.decide_or, ← Bool.decide_or, ← Bool.decide_and, decide_eq_decide]
  omega

/-! The operations with their operands in range. -/

theorem verdictOk_iff (v : Verdict) : verdictOk v = true ↔ v ≠ .gap 0 := by
  cases v <;> simp [verdictOk]

section
variable {p : List Byte} {v : Verdict} {s : State}

theorem exec_reasm (hp : p.length ≤ 256) (hv : v ≠ .gap 0) :
    exec (.reasm p v) s =
      if s.fits (256 * v.count.toNat + p.length) then .next (s.reassemble p v) else .next (s.raise .bufferOverflow) :=
  if_pos (by rw [(payloadOk_iff p).mpr hp, (verdictOk_iff v).mpr hv]; rfl)

theorem exec_recPayload (hp : p.length ≤ 256) :
    exec (.recPayload p) s =
      if s.fits p.length then .next (s.append p) else .next (s.raise .bufferOverflow) :=
  if_pos ((payloadOk_iff p).mpr hp)

theorem exec_recGap_of_full {n : BitVec 16} (h : s.fits (256 * n.toNat) = false) :
    exec (.recGap n) s = .next (s.raise .bufferOverflow) := if_neg (Bool.eq_false_iff.mp h)

theorem exec_gsLoad (hp : p.length ≤ 256) (hv : v ≠ .gap 0) (hidle : s.gsState = .idle) :
    exec (.gsLoad p v) s =
      if s.fits (256 * v.count.toNat + p.length) then .next (s.loadSynthesizer p v)
      else .next (s.raise .bufferOverflow) := by
  have hoperands : (payloadOk p && verdictOk v) = true := by
    rw [(payloadOk_iff p).mpr hp, (verdictOk_iff v).mpr hv]
    rfl
  have hnotBusy : ¬s.busy = true := by simp [State.busy, hidle]
  exact (if_pos hoperands).trans (if_neg hnotBusy)

end

/-- Settles O27: the zeros and the payload lie next to each other from the old WPTR up to the new one. -/
theorem reasmAppendsZerosThenPayload : Obligations.ReasmAppendsZerosThenPayload := by
  refine fun p v s hp hv => ⟨fun hfits => ?fits, fun hfull => ?full⟩
  case fits =>
    refine ⟨s.reassemble p v, ?_, rfl, rfl, s.abufBytes_reassemble p v, fun a => State.get_abuf_reassemble_outside⟩
    rw [exec_reasm hp hv, hfits, if_pos rfl]
  case full =>
    refine ⟨s.raise .bufferOverflow, ?_, rfl, rfl⟩
    rw [exec_reasm hp hv, hfull, if_neg Bool.false_ne_true]

/-- REASM with InOrder fills nothing (R162). -/
theorem State.reassemble_inOrder (s : State) (p : List Byte) : s.reassemble p .inOrder = s.append p := by
  have hempty : s.appendZeros 0 = s := by rw [State.appendZeros, Memory.fillZero_zero, Nat.add_zero]
  exact congrArg (State.append · p) hempty

/-- What is appended counts as used (R217). -/
theorem State.fits_appendZeros (s : State) (n m : Nat) : (s.appendZeros n).fits m = s.fits (n + m) :=
  State.fits_congr rfl (Nat.add_assoc s.wptr n m)

/-- Settles O28: REASM is defined as the two appends; the capacity tested for both leaves room for the first, and then for
the second. -/
theorem reasmIsItsRecordsInOrder : Obligations.ReasmIsItsRecordsInOrder := by
  refine fun p s hp => ⟨fun hfits => ⟨rfl, ?inOrder⟩, fun n hn hfits => ⟨rfl, ?gap⟩⟩
  case inOrder =>
    refine ⟨s.append p, by rw [exec_recPayload hp, hfits, if_pos rfl], ?_⟩
    have hfits' : s.fits (256 * Verdict.inOrder.count.toNat + p.length) = true := by simpa [Verdict.count] using hfits
    rw [exec_reasm hp (by simp), hfits', if_pos rfl, State.reassemble_inOrder]
  case gap =>
    have hgap : s.fits (256 * n.toNat) = true := State.fits_mono hfits (Nat.le_add_right _ _)
    have hpayload : (s.appendZeros (256 * n.toNat)).fits p.length = true := by rw [State.fits_appendZeros, hfits]
    refine ⟨_, s.reassemble p (.gap n), exec_recGap_of_fits hgap, ?_, ?_⟩
    · rw [exec_recPayload hp, hpayload, if_pos rfl]
      rfl
    · rw [exec_reasm hp (by simpa using hn)]
      exact if_pos hfits

/-- Settles O29: each record is one append or one overflow. -/
theorem recordsAppendTheirBytes : Obligations.RecordsAppendTheirBytes := by
  refine ⟨fun p s hp hfits => ?payload, fun p s hp hfull => ?payloadFull, fun n s hfull => ?gapFull,
    fun n s hfits => ?gap⟩
  case payload =>
    refine ⟨s.append p, ?_, rfl, rfl, s.abufBytes_append p, fun a => Memory.get_write_outside⟩
    rw [exec_recPayload hp, hfits, if_pos rfl]
  case payloadFull =>
    refine ⟨s.raise .bufferOverflow, ?_, rfl, rfl⟩
    rw [exec_recPayload hp, hfull, if_neg Bool.false_ne_true]
  case gapFull => exact ⟨_, exec_recGap_of_full hfull, rfl, rfl⟩
  case gap =>
    exact ⟨_, exec_recGap_of_fits hfits, rfl, rfl, s.abufBytes_appendZeros _, fun a => Memory.get_fillZero_outside⟩

/-- A payload that fits in PBUF is stored whole, and the bytes behind it stay (R167). -/
theorem toList_loadPbuf_of_le {p : List Byte} (h : p.length ≤ 256) (old : Vector Byte 256) :
    (loadPbuf old p).toList = p ++ old.toList.drop p.length := by
  rw [toList_loadPbuf, List.take_of_length_le]
  rw [List.length_append, List.length_drop, Vector.length_toList]
  omega

/-- Settles O30: a load that fits writes the four elements of the synthesizer. -/
theorem gsLoadStoresTheDatagram : Obligations.GsLoadStoresTheDatagram := by
  refine fun p v s hp hv hidle => ⟨fun hfits => ?fits, fun hfull => ?full⟩
  case fits =>
    have hpayload : payloadOk p = true := (payloadOk_iff p).mpr hp
    refine ⟨s.loadSynthesizer p v, ?_, ?_, State.toNat_plen_loadSynthesizer hpayload s v, toList_loadPbuf_of_le hp s.pbuf,
      s.pbufBytes_loadSynthesizer p v hpayload⟩
    · rw [exec_gsLoad hp hv hidle, hfits, if_pos rfl]
    · rw [ite_not]
      rfl
  case full =>
    refine ⟨s.raise .bufferOverflow, ?_, rfl, rfl⟩
    rw [exec_gsLoad hp hv hidle, hfull, if_neg Bool.false_ne_true]

/-- Settles O31: one block of zeros behind WPTR, and the test of the count that is left. -/
theorem gsZfillAppendsOneBlock : Obligations.GsZfillAppendsOneBlock := by
  intro s hgs hzrem
  refine ⟨s.zeroFillBlock, exec_gsZfill hgs hzrem, ?_, toNat_zrem_sub_one hzrem, s.abufBytes_zeroFillBlock,
    fun a => Memory.get_fillZero_outside⟩
  rw [← State.zeroFillBlock_gsState_of_zfill hgs]
  rfl

/-- Settles O32: GS.PAYLOAD is one append, of as many bytes as PLEN says. -/
theorem gsPayloadAppendsPbuf : Obligations.GsPayloadAppendsPbuf := by
  intro s hgs hplen
  refine ⟨s.flushPayload, exec_gsPayload hgs, ?_, s.abufBytes_flushPayload, fun a => Memory.get_write_outside⟩
  rw [← State.length_pbufBytes_of_le hplen]
  rfl

/-! Events that wait (R171). -/

theorem State.mustHold_of_busy {s : State} (hbusy : s.gsState ≠ .idle) (hfault : s.fault = false) :
    s.mustHold = true := by
  simp [State.mustHold, State.busy, hbusy, hfault]

/-- Settles O10: the first test of each event is whether it has to wait. -/
theorem eventsAreHeldWhileBusy : Obligations.EventsAreHeldWhileBusy := by
  intro s rc d hbusy hfault
  have hhold : s.mustHold = true := State.mustHold_of_busy hbusy hfault
  exact ⟨if_pos hhold, if_pos hhold, if_pos hhold, if_pos hhold⟩

end Sys2Proof.Machine
end

section
/-! PROOFS. The fill (spec/42_reassembler.md R166, R170, R171). While the synthesizer is busy and no RESET comes, `j` steps
take a state to one that is written down, `State.filled`; the step that follows the last block flushes the payload. O9 is one
step of a busy block, O35 the whole fill, and O34 the whole fill after a GS.LOAD beside REASM. -/

namespace Sys2Proof.Machine

/-! One step of a busy block. -/

theorem step_of_zfill {s : State} (hreset : s.arrive.resetPending = false) (hfault : s.fault = false)
    (hgs : s.gsState = .zfill) (hzrem : s.zrem ≠ 0) : step s = .next s.arrive.zeroFillBlock :=
  (step_of_pick_run (State.pick_of_zfill hreset (by simpa using hfault) (by simpa using hgs))).trans
    (exec_gsZfill (by simpa using hgs) (by simpa using hzrem))

theorem step_of_payload {s : State} (hreset : s.arrive.resetPending = false) (hfault : s.fault = false)
    (hgs : s.gsState = .payload) : step s = .next s.arrive.flushPayload :=
  (step_of_pick_run (State.pick_of_payload hreset (by simpa using hfault) (by simpa using hgs))).trans
    (exec_gsPayload (by simpa using hgs))

/-- Settles O9: a busy block selects its micro-step, which leaves the queue as arrival made it. -/
theorem busySynthesizerStepsAndHoldsEvents : Obligations.BusySynthesizerStepsAndHoldsEvents := by
  refine fun s hreset hfault => ⟨fun hgs hzrem => ?zfill, fun hgs => ?payload⟩
  case zfill =>
    exact ⟨s.arrive.zeroFillBlock, step_of_zfill hreset hfault hgs hzrem,
      exec_gsZfill (by simpa using hgs) (by simpa using hzrem), s.arrive_held, s.arrive_input⟩
  case payload =>
    exact ⟨s.arrive.flushPayload, step_of_payload hreset hfault hgs, exec_gsPayload (by simpa using hgs), s.arrive_held,
      s.arrive_input⟩

/-- Without a RESET in the backlog none is pending once a batch has arrived. -/
theorem State.NoReset.resetPending_arrive {s : State} (h : s.NoReset) : s.arrive.resetPending = false := by
  rw [State.noReset_iff, ← State.backlog_arrive] at h
  rw [State.resetPending, List.any_eq_false]
  intro p hp
  simp [h p (List.mem_append_left _ hp)]

/-! Many steps. -/

/-- One more step at the end of a run. -/
theorem stepN_succ_of_next {k : Nat} {s t : State} (h : stepN k s = .next t) : stepN (k + 1) s = step t := by
  induction k generalizing s with
  | zero =>
    obtain rfl := next_inj h
    rw [stepN]
    cases step s <;> rfl
  | succ k ih =>
    rw [stepN] at h ⊢
    cases hstep : step s with
    | next u => rw [hstep] at h; exact ih h
    | fault r => rw [hstep] at h; cases h
    | refused r => rw [hstep] at h; cases h

/-! The fill. -/

/-- The state after `j` steps of a fill of ZREM blocks: `j` blocks of zeros behind the old WPTR, and `j` batches behind the
packets that were held. -/
def State.filled (s : State) (j : Nat) : State :=
  { s with
    abuf := s.abuf.fillZero s.wptr (256 * j)
    wptr := s.wptr + 256 * j
    zrem := .ofNat 16 (s.zrem.toNat - j)
    gsState := if s.zrem.toNat = j then .payload else .zfill
    held := s.held ++ (s.input.take j).flatten
    input := s.input.drop j }

section
variable {s : State}

@[simp] theorem State.toNat_zrem_filled (s : State) (j : Nat) : (s.filled j).zrem.toNat = s.zrem.toNat - j := by
  have hz : s.zrem.toNat < 65536 := s.zrem.isLt
  exact (BitVec.toNat_ofNat ..).trans (Nat.mod_eq_of_lt (by omega))

@[simp] theorem State.backlog_filled (s : State) (j : Nat) : (s.filled j).backlog = s.backlog := by
  simp only [State.backlog, State.filled, List.append_assoc, ← List.flatten_append, List.take_append_drop]

theorem State.NoReset.filled (h : s.NoReset) (j : Nat) : (s.filled j).NoReset := by
  rwa [State.noReset_iff, State.backlog_filled, ← State.noReset_iff]

/-- A synthesizer that is in the state its count selects starts the fill where it stands. -/
theorem State.filled_zero (hgs : s.gsState = if s.zrem.toNat = 0 then .payload else .zfill) : s.filled 0 = s := by
  simp only [State.filled, Nat.mul_zero, Memory.fillZero_zero, Nat.add_zero, Nat.sub_zero, BitVec.ofNat_toNat,
    BitVec.setWidth_eq, ← hgs, List.take_zero, List.flatten_nil, List.append_nil, List.drop_zero]

/-- Before the last block of a fill there is a block to append. -/
theorem State.zrem_filled_ne_zero {j : Nat} (hj : j < s.zrem.toNat) : (s.filled j).zrem ≠ 0 := by
  rw [Ne, ← BitVec.toNat_inj, State.toNat_zrem_filled]
  exact Nat.sub_ne_zero_of_lt hj

theorem State.gsState_filled_of_lt {j : Nat} (hj : j < s.zrem.toNat) : (s.filled j).gsState = .zfill :=
  if_neg hj.ne'

/-- One block more is one arrival and one GS.ZFILL more. -/
theorem State.filled_succ {j : Nat} (hj : j < s.zrem.toNat) :
    (s.filled j).arrive.zeroFillBlock = s.filled (j + 1) := by
  have hzrem : (s.filled j).zrem - 1 = (s.filled (j + 1)).zrem := by
    apply BitVec.eq_of_toNat_eq
    rw [toNat_zrem_sub_one (State.zrem_filled_ne_zero hj), State.toNat_zrem_filled, State.toNat_zrem_filled,
      Nat.sub_sub]
  have hlast : (s.filled (j + 1)).zrem = 0 ↔ s.zrem.toNat = j + 1 := by
    rw [← BitVec.toNat_inj, State.toNat_zrem_filled]
    change s.zrem.toNat - (j + 1) = 0 ↔ _
    omega
  have hgs : (if (s.filled j).zrem - 1 = 0 then .payload else (s.filled j).gsState) = (s.filled (j + 1)).gsState := by
    rw [hzrem, State.gsState_filled_of_lt hj]
    exact if_congr hlast rfl rfl
  have hwptr : (s.filled j).wptr + 256 = (s.filled (j + 1)).wptr := by
    simp only [State.filled]
    omega
  have habuf : (s.filled j).abuf.fillZero (s.filled j).wptr 256 = (s.filled (j + 1)).abuf :=
    Memory.fillZero_fillZero _ _ _ _
  have hheld : (s.filled j).held ++ (s.filled j).input.headD [] = (s.filled (j + 1)).held := by
    simp only [State.filled, List.append_assoc, List.take_add_one, List.flatten_append, List.headD_eq_head?_getD,
      List.head?_drop]
    cases s.input[j]? <;> simp
  have hinput : (s.filled j).input.tail = (s.filled (j + 1)).input := List.tail_drop
  calc (s.filled j).arrive.zeroFillBlock
      _ = { s.filled j with
            abuf := (s.filled (j + 1)).abuf, wptr := (s.filled (j + 1)).wptr, zrem := (s.filled (j + 1)).zrem,
            gsState := (s.filled (j + 1)).gsState, held := (s.filled (j + 1)).held,
            input := (s.filled (j + 1)).input } := by
        rw [← habuf, ← hwptr, ← hzrem, ← hgs, ← hheld, ← hinput, State.arrive_eq]
        rfl
      _ = s.filled (j + 1) := rfl

end

/-- `j` steps of a fill (R168, R170): each arrives a batch and appends a block. -/
theorem stepN_filled {s : State} (hfault : s.fault = false) (hreset : s.NoReset)
    (hgs : s.gsState = if s.zrem.toNat = 0 then .payload else .zfill) {j : Nat} (hj : j ≤ s.zrem.toNat) :
    stepN j s = .next (s.filled j) := by
  induction j with
  | zero => rw [State.filled_zero hgs, stepN]
  | succ j ih =>
    calc stepN (j + 1) s
        _ = step (s.filled j) := stepN_succ_of_next (ih (Nat.le_of_succ_le hj))
        _ = .next (s.filled j).arrive.zeroFillBlock :=
          step_of_zfill (hreset.filled j).resetPending_arrive hfault (State.gsState_filled_of_lt hj)
            (State.zrem_filled_ne_zero hj)
        _ = .next (s.filled (j + 1)) := by rw [State.filled_succ hj]

/-- The whole fill, and the payload after it (R170). -/
theorem stepN_filled_flushPayload {s : State} (hfault : s.fault = false) (hreset : s.NoReset)
    (hgs : s.gsState = if s.zrem.toNat = 0 then .payload else .zfill) :
    stepN (s.zrem.toNat + 1) s = .next (s.filled s.zrem.toNat).arrive.flushPayload :=
  (stepN_succ_of_next (stepN_filled hfault hreset hgs (Nat.le_refl _))).trans
    (step_of_payload (hreset.filled _).resetPending_arrive hfault (if_pos rfl))

/-- GS.PAYLOAD takes no packet. -/
theorem State.backlog_arrive_flushPayload (s : State) : s.arrive.flushPayload.backlog = s.backlog :=
  s.backlog_arrive

/-- Settles O35: nothing to do in GS_IDLE, one step in GS_PAYLOAD, and in GS_ZFILL one step more than the blocks left, of
which there are fewer than 65536. -/
theorem busySynthesizerBecomesIdle : Obligations.BusySynthesizerBecomesIdle := by
  intro s hfault hzfill hreset
  cases hgs : s.gsState with
  | idle => exact ⟨0, Nat.zero_le _, s, rfl, hgs, rfl⟩
  | payload =>
    have hstep : stepN 1 s = .next s.arrive.flushPayload :=
      (stepN_succ_of_next rfl).trans (step_of_payload hreset.resetPending_arrive hfault hgs)
    exact ⟨1, by decide, _, hstep, rfl, s.backlog_arrive_flushPayload⟩
  | zfill =>
    have hblocks : s.zrem.toNat ≠ 0 := fun hzero => hzfill hgs (BitVec.eq_of_toNat_eq hzero)
    have hrun := stepN_filled_flushPayload hfault hreset (hgs.trans (if_neg hblocks).symm)
    exact ⟨s.zrem.toNat + 1, s.zrem.isLt, _, hrun, rfl,
      (State.backlog_arrive_flushPayload _).trans (s.backlog_filled _)⟩

/-! The fill after a GS.LOAD, beside REASM (R170). -/

/-- The state that GS.LOAD selects is the one its count selects (R167). -/
theorem State.gsState_loadSynthesizer_eq_ite_zrem (s : State) (p : List Byte) (v : Verdict) :
    (s.loadSynthesizer p v).gsState = if (s.loadSynthesizer p v).zrem.toNat = 0 then .payload else .zfill :=
  if_congr (BitVec.toNat_inj (y := 0)).symm rfl rfl

/-- The fill and the payload append the bytes that REASM appends, to the same places: what differs is the synthesizer's own
elements and the queue. -/
theorem State.filled_flushPayload_eq_reassemble {s : State} {p : List Byte} (hp : p.length ≤ 256)
    (hidle : s.gsState = .idle) (v : Verdict) :
    ∃ zrem pbuf plen held input, ((s.loadSynthesizer p v).filled v.count.toNat).arrive.flushPayload =
      { s.reassemble p v with zrem := zrem, pbuf := pbuf, plen := plen, held := held, input := input } := by
  have hbytes : (s.loadSynthesizer p v).pbufBytes = p :=
    s.pbufBytes_loadSynthesizer p v ((payloadOk_iff p).mpr hp)
  have hflushed : ((s.loadSynthesizer p v).filled v.count.toNat).arrive.pbufBytes = p := by
    rw [State.arrive_eq]
    exact hbytes
  rw [State.flushPayload, hflushed, State.arrive_eq, ← hidle]
  exact ⟨_, _, _, _, _, rfl⟩

/-- Settles O34: the run after GS.LOAD is the fill of the verdict's count, and each state on its way is `State.filled`. -/
theorem microStepsImplementReasm : Obligations.MicroStepsImplementReasm := by
  intro p v s hp hv hidle hfault hreset hfits
  have hgs := s.gsState_loadSynthesizer_eq_ite_zrem p v
  obtain ⟨zrem, pbuf, plen, held, input, hend⟩ := State.filled_flushPayload_eq_reassemble hp hidle v
  have hrun : stepN (v.count.toNat + 1) (s.loadSynthesizer p v) = .next _ :=
    stepN_filled_flushPayload (s := s.loadSynthesizer p v) hfault hreset hgs
  refine ⟨s.loadSynthesizer p v, s.reassemble p v, _, ?load, ?reasm, hrun, ?frame, ?bytes, fun j hj => ?between⟩
  case load => rw [exec_gsLoad hp hv hidle, hfits, if_pos rfl]
  case reasm => rw [exec_reasm hp hv, hfits, if_pos rfl]
  case frame => rw [State.loadSynthesizer_zrem, hend]
  case bytes => intro a; rw [State.loadSynthesizer_zrem, hend]
  case between =>
    have hzrem : ((s.loadSynthesizer p v).filled j).zrem.toNat = v.count.toNat - j :=
      State.toNat_zrem_filled (s.loadSynthesizer p v) j
    refine ⟨_, stepN_filled (s := s.loadSynthesizer p v) hfault hreset hgs hj, ?busy, hzrem, ?wptr⟩
    case busy =>
      rw [State.filled]
      split <;> simp
    case wptr =>
      rw [hzrem, Nat.sub_sub_self hj]
      rfl

end Sys2Proof.Machine
end

section
/-! PROOFS. The acquisition session (spec/43_session.md): one equation per event that need not wait, one for a datagram that
fits, one per arm of DGRAM; then the edges SESSION moves along, and time (R189, R193, R194). -/

namespace Sys2Proof.Machine

/-! The events, where the synthesizer does not make them wait (R181, R182, R186, R187). -/

/-- An event is answered at once in GS_IDLE, and under FAULT whatever GS_STATE holds (R171, R190). -/
theorem State.mustHold_of_accepts {s : State} (h : s.gsState = .idle ∨ s.fault = true) : s.mustHold = false := by
  rcases h with hidle | hfault
  · simp [State.mustHold, State.busy, hidle]
  · exact State.mustHold_of_fault hfault

section
variable {s : State} {i : Instr}

/-- START tests the code before the state (R181, R221). -/
theorem exec_start (hhold : s.mustHold = false) (rc : Byte) :
    exec (.start rc) s =
      if 3 < rc.toNat then .next { s with ret := .result (.invalidConfiguration rc) }
      else if s.startable then .next (s.openSession rc).returnOk
      else .next { s with ret := .result .badState } := by
  have hcode : rateCodeOk rc = false ↔ 3 < rc.toNat := by
    rw [← Bool.not_eq_true, rateCodeOk_iff, Nat.not_le]
  by_cases hillegal : 3 < rc.toNat
  · rw [if_pos hillegal]
    simp [exec, execStart, hhold, hcode.mpr hillegal, State.withRet]
  · rw [if_neg hillegal]
    have hlegal : rateCodeOk rc = true := by simpa [hillegal] using hcode
    cases hstart : s.startable <;> simp [exec, execStart, hhold, hlegal, hstart, State.withRet]

theorem exec_dgram (hhold : s.mustHold = false) (d : List Byte) :
    exec (.dgram d) s =
      if s.sessionOpen then .next (s.acceptDatagram d) else .next { s with ret := .result .badState } := by
  cases hopen : s.sessionOpen <;> simp [exec, execDgram, hhold, hopen, State.withRet]

/-- TIMEOUT and CANCEL are one operation under two names (R186, R187). -/
theorem exec_of_timeout_or_cancel (hi : i = .timeout ∨ i = .cancel) (hhold : s.mustHold = false) :
    exec i s = if s.sessionOpen then .next s.stopSequence else .next { s with ret := .result .badState } := by
  rcases hi with rfl | rfl
  · cases hopen : s.sessionOpen <;> simp [exec, execTimeout, hhold, hopen, State.withRet]
  · cases hopen : s.sessionOpen <;> simp [exec, execCancel, hhold, hopen, State.withRet]

/-- STOPSEQ does what the two events do where they are accepted (R188). -/
theorem exec_of_stop_event (hi : i = .timeout ∨ i = .cancel ∨ i = .stopseq) (hidle : s.gsState = .idle)
    (hopen : s.sessionOpen = true) : exec i s = .next s.stopSequence := by
  have hhold : s.mustHold = false := State.mustHold_of_accepts (.inl hidle)
  rcases hi with rfl | rfl | rfl
  · rw [exec_of_timeout_or_cancel (.inl rfl) hhold, if_pos hopen]
  · rw [exec_of_timeout_or_cancel (.inr rfl) hhold, if_pos hopen]
  · simp [exec, execStopseq, hopen, State.busy, hidle]

end

/-- Settles O36: in Idle, with FAULT 0 and a legal code, both tests pass. -/
theorem startOpensASession : Obligations.StartOpensASession := by
  intro rc s hcode hsession hfault hidle
  rw [exec_start (State.mustHold_of_accepts (.inl hidle)), if_neg hcode.not_gt,
    if_pos (s.startable_iff.mpr ⟨hfault, hsession⟩), ← startMessage_setWidth hcode]
  rfl

/-- Settles O37: the code test, and behind it the state test, each failing. -/
theorem rejectedStartChangesNothing : Obligations.RejectedStartChangesNothing := by
  intro rc s haccepts
  rw [exec_start (State.mustHold_of_accepts haccepts)]
  refine ⟨fun hillegal => if_pos hillegal, fun hlegal hclosed => ?_⟩
  have hstart : ¬s.startable = true := by
    rw [State.startable_iff]
    rintro ⟨hfault, hsession⟩
    simp [hfault, hsession] at hclosed
  rw [if_neg hlegal.not_gt, if_neg hstart]

/-- Settles O40: outside an open session the one test of these events fails. -/
theorem eventsOutsideASessionAreRefused : Obligations.EventsOutsideASessionAreRefused := by
  intro i s hi haccepts hclosed
  have hhold : s.mustHold = false := State.mustHold_of_accepts haccepts
  have hopen : ¬s.sessionOpen = true := by
    rw [State.sessionOpen_iff]
    rintro ⟨hfault, hsession⟩
    rcases hsession with hs | hs <;> simp [hfault, hs] at hclosed
  rcases hi with ⟨d, rfl⟩ | hstop
  · rw [exec_dgram hhold, if_neg hopen]
  · rw [exec_of_timeout_or_cancel hstop hhold, if_neg hopen]

/-- Settles O42: the stop sequence is the three writes and the OK. -/
theorem stopEventsRunTheStopSequence : Obligations.StopEventsRunTheStopSequence :=
  fun s _ hi hidle hfault hsession => exec_of_stop_event hi hidle (s.sessionOpen_iff.mpr ⟨hfault, hsession⟩)

/-! A datagram of a session (R182 to R185). -/

theorem exec_dgram_of_open {s : State} (hidle : s.gsState = .idle) (hfault : s.fault = false)
    (hsession : s.session = .started ∨ s.session = .receiving) (d : List Byte) :
    exec (.dgram d) s = .next (s.enterReceiving.acceptedBy d).expireDbuf := by
  rw [exec_dgram (State.mustHold_of_accepts (.inl hidle)), if_pos (s.sessionOpen_iff.mpr ⟨hfault, hsession⟩),
    State.acceptDatagram_eq]

section
variable {d : List Byte}

theorem State.acceptedBy_of_short (h : d.length < 3) (s : State) :
    s.acceptedBy d = s.withRet (.result (.shortDatagram d.length)) :=
  if_pos ((shortLength_iff d).mpr h)

theorem State.acceptedBy_of_oversize (h : 259 < d.length) (s : State) :
    s.acceptedBy d = s.withRet (.result (.oversizeDatagram d.length)) := by
  have hlong : ¬shortLength d = true := by rw [shortLength_iff]; omega
  exact (if_neg hlong).trans (if_pos ((oversizeLength_iff d).mpr h))

theorem State.acceptedBy_of_validLength (h : validLength d = true) (s : State) : s.acceptedBy d = s.receiveValid d := by
  rw [validLength_iff] at h
  have hlong : ¬shortLength d = true := by rw [shortLength_iff]; omega
  have hroom : ¬oversizeLength d = true := by rw [oversizeLength_iff]; omega
  exact (if_neg hlong).trans (if_neg hroom)

/-- A datagram that fits is classified, answered and loaded (R185). The capacity test comes after CLASSIFY, which neither
WPTR nor the parameters notice. -/
theorem State.receiveValid_of_fits {s : State}
    (h : s.fits (256 * (gaplen (receivedOf d) s.expected).toNat + (payloadOf d).length) = true) :
    s.receiveValid d =
      ({ s with
        expected := adv (receivedOf d),
        ret := .result (.ok (some (s.verdictOn (receivedOf d)))) } : State).loadSynthesizer
        (payloadOf d) (s.verdictOn (receivedOf d)) := by
  rcases s.receiveValid_cases d with ⟨-, heq⟩ | ⟨hfull, -⟩
  · rw [heq, State.classified_eq]
    rfl
  · rw [unitBytes_eq, State.count_verdictOn, State.fits_congr (s.classified_params _) (by rw [s.classified_wptr]), h]
      at hfull
    cases hfull

end

/-- Three header bytes and a payload of at most 256 make a legal length (R91). -/
theorem validLength_encodeDatagram {p : List Byte} (h : p.length ≤ 256) (y : Byte) (c : Counter) :
    validLength (encodeDatagram y c p) = true := by
  rw [validLength_iff]
  simp only [encodeDatagram, List.length_cons]
  omega

section
variable {p : List Byte} {c : Counter} {s : State}

/-- All that DGRAM.VALID writes for a datagram that fits (R167, R185). -/
theorem State.receiveValid_encodeDatagram (y : Byte)
    (h : s.fits (256 * (gaplen c s.expected).toNat + p.length) = true) :
    s.receiveValid (encodeDatagram y c p) =
      { s with
        expected := adv c, zrem := gaplen c s.expected, pbuf := loadPbuf s.pbuf p, plen := .ofNat 9 p.length,
        gsState := if c = s.expected then .payload else .zfill,
        ret := .result (.ok (some (if c = s.expected then .inOrder else .gap (gaplen c s.expected)))) } := by
  have hload : s.receiveValid (encodeDatagram y c p) = _ := State.receiveValid_of_fits (by simpa using h)
  have hgs : (if (s.verdictOn c).count = 0 then GsState.payload else .zfill) =
      if c = s.expected then .payload else .zfill := by
    rw [State.count_verdictOn]
    exact if_congr (gaplen_eq_zero_iff c s.expected) rfl rfl
  rw [hload, receivedOf_encodeDatagram, payloadOf_encodeDatagram, State.loadSynthesizer, hgs, State.count_verdictOn]
  rfl

/-- One that does not fit overflows, with EXPECTED already written (R185, R221). -/
theorem State.receiveValid_encodeDatagram_of_full (y : Byte)
    (h : s.fits (256 * (gaplen c s.expected).toNat + p.length) = false) :
    s.receiveValid (encodeDatagram y c p) = (s.classified c).raise .bufferOverflow := by
  rcases s.receiveValid_cases (encodeDatagram y c p) with ⟨hfits, -⟩ | ⟨-, heq⟩
  · rw [unitBytes_eq, State.count_verdictOn, receivedOf_encodeDatagram, payloadOf_encodeDatagram,
      State.fits_congr (s.classified_params _) (by rw [s.classified_wptr]), h] at hfits
    cases hfits
  · rw [heq, receivedOf_encodeDatagram]

end

/-- Settles O39: the writes of DGRAM.VALID between those of DGRAM, the move to Receiving and the end of DBUF. What PBUF and
PLEN get does not depend on the verdict. -/
theorem validDatagramIsClassifiedAndLoaded : Obligations.ValidDatagramIsClassifiedAndLoaded := by
  intro y c p s hp hidle hfault hsession hfits
  have hpayload : payloadOk p = true := (payloadOk_iff p).mpr hp
  refine ⟨_, exec_dgram_of_open hidle hfault hsession _, ?_⟩
  rw [State.acceptedBy_of_validLength (validLength_encodeDatagram hp y c),
    State.receiveValid_encodeDatagram (s := s.enterReceiving) y hfits]
  exact ⟨rfl, s.toNat_plen_loadSynthesizer hpayload .inOrder, s.pbufBytes_loadSynthesizer p .inOrder hpayload⟩

/-- Settles O38: the length is the whole effect, beside those of every DGRAM. -/
theorem shortAndOversizeDatagramsAreSkipped : Obligations.ShortAndOversizeDatagramsAreSkipped := by
  intro d s hidle hfault hsession
  have haccepted := exec_dgram_of_open hidle hfault hsession d
  refine ⟨fun hshort => ⟨_, haccepted, ?_⟩, fun hover => ⟨_, haccepted, ?_⟩⟩
  · rw [State.acceptedBy_of_short hshort]
    rfl
  · rw [State.acceptedBy_of_oversize hover]
    rfl

/-! The arms of DGRAM, each run on its own (R183 to R185; log entry 12 for the stops). -/

section
variable {d : List Byte} {s : State}

theorem exec_dgramShort :
    exec (.dgramShort d) s =
      if d.length < 3 then .next { s with ret := .result (.shortDatagram d.length) }
      else .fault (.precondition "DGRAM.SHORT") :=
  if_congr (shortLength_iff d) rfl rfl

theorem exec_dgramOversize :
    exec (.dgramOversize d) s =
      if 259 < d.length then .next { s with ret := .result (.oversizeDatagram d.length) }
      else .fault (.precondition "DGRAM.OVERSIZE") :=
  if_congr (oversizeLength_iff d) rfl rfl

theorem exec_dgramValid :
    exec (.dgramValid d) s =
      if (3 ≤ d.length ∧ d.length ≤ 259) ∧ s.gsState = .idle then .next (s.receiveValid d)
      else .fault (.precondition "DGRAM.VALID") :=
  if_congr (by simp [validLength_iff, State.busy]) rfl rfl

theorem exec_dgramValid_of_legal {p : List Byte} {c : Counter} (hp : p.length ≤ 256) (hidle : s.gsState = .idle)
    (y : Byte) :
    exec (.dgramValid (encodeDatagram y c p)) s = .next (s.receiveValid (encodeDatagram y c p)) :=
  exec_dgramValid.trans (if_pos ⟨(validLength_iff _).mp (validLength_encodeDatagram hp y c), hidle⟩)

end

/-- Settles O41: the guards of the three arms are disjoint and cover every length; what DGRAM.VALID does is said for O39,
and what it does on an overflow keeps what U16 does not name. -/
theorem datagramArmsRunWhereSelected : Obligations.DatagramArmsRunWhereSelected := by
  refine ⟨fun d s hshort => ?short, fun d s hover => ?oversize, fun y c p s hp hidle hfits => ?fits,
    fun y c p s hp hidle hfull => ?full, fun d s hlow hhigh => ?legal⟩
  case short =>
    exact ⟨exec_dgramShort.trans (if_pos hshort), exec_dgramOversize.trans (if_neg (by omega)),
      exec_dgramValid.trans (if_neg (by omega))⟩
  case oversize =>
    exact ⟨exec_dgramOversize.trans (if_pos hover), exec_dgramShort.trans (if_neg (by omega)),
      exec_dgramValid.trans (if_neg (by omega))⟩
  case fits =>
    have hpayload : payloadOk p = true := (payloadOk_iff p).mpr hp
    refine ⟨_, exec_dgramValid_of_legal hp hidle y, ?_⟩
    rw [State.receiveValid_encodeDatagram y hfits]
    exact ⟨rfl, s.toNat_plen_loadSynthesizer hpayload .inOrder, s.pbufBytes_loadSynthesizer p .inOrder hpayload⟩
  case full =>
    refine ⟨_, exec_dgramValid_of_legal hp hidle y, ?_⟩
    rw [State.receiveValid_encodeDatagram_of_full y hfull]
    simp
  case legal =>
    exact ⟨exec_dgramShort.trans (if_neg (by omega)), exec_dgramOversize.trans (if_neg (by omega)),
      fun hbusy => exec_dgramValid.trans (if_neg fun h => hbusy h.2)⟩

/-! The edges of SESSION (R190). -/

@[simp] theorem State.receiveValid_session (s : State) (d : List Byte) : (s.receiveValid d).session = s.session := by
  rcases s.receiveValid_cases d with ⟨-, heq⟩ | ⟨-, heq⟩ <;> simp [heq]

@[simp] theorem State.acceptedBy_session (s : State) (d : List Byte) : (s.acceptedBy d).session = s.session := by
  unfold State.acceptedBy
  split_ifs <;> simp

/-- Only an input event or STOPSEQ moves SESSION. -/
theorem exec_keeps_session {i : Instr} {s t : State} (h : exec i s = .next t) (hevent : i.isInputEvent = false)
    (hstop : i ≠ .stopseq) : t.session = s.session := by
  cases i with
  | reset => cases hevent
  | start rc => cases hevent
  | dgram d => cases hevent
  | timeout => cases hevent
  | cancel => cases hevent
  | stopseq => exact absurd rfl hstop
  | dgramShort d => obtain ⟨-, rfl⟩ := execDgramShort_cases h; rfl
  | dgramOversize d => obtain ⟨-, rfl⟩ := execDgramOversize_cases h; rfl
  | dgramValid d => obtain ⟨-, -, rfl⟩ := execDgramValid_cases h; exact s.receiveValid_session d
  | ctlStart rc => obtain rfl := next_inj h; rfl
  | ctlStop => obtain rfl := next_inj h; rfl
  | ratehz c => obtain rfl := next_inj h; rfl
  | tstamp n => obtain rfl := next_inj h; rfl
  | parse d => obtain ⟨-, rfl⟩ := execParse_cases h; rfl
  | adv x => obtain rfl := next_inj h; rfl
  | gaplen r e => obtain rfl := next_inj h; rfl
  | classify r => obtain rfl := next_inj h; exact s.classified_session r
  | classifyInorder r => obtain ⟨-, rfl⟩ := execClassifyInorder_cases h; rfl
  | classifyGap r => obtain ⟨-, rfl⟩ := execClassifyGap_cases h; rfl
  | reasm p v => obtain ⟨-, -, ⟨-, rfl⟩ | ⟨-, rfl⟩⟩ := execReasm_cases h <;> rfl
  | recPayload p => obtain ⟨-, ⟨-, rfl⟩ | ⟨-, rfl⟩⟩ := execRecPayload_cases h <;> rfl
  | recGap n => obtain ⟨-, rfl⟩ | ⟨-, rfl⟩ := execRecGap_cases h <;> rfl
  | gsLoad p v => obtain ⟨-, -, -, ⟨-, rfl⟩ | ⟨-, rfl⟩⟩ := execGsLoad_cases h <;> rfl
  | gsZfill => obtain ⟨-, -, rfl⟩ := execGsZfill_cases h; rfl
  | gsPayload => obtain ⟨-, rfl⟩ := execGsPayload_cases h; rfl
  | decg b0 b1 b2 b3 => obtain rfl := next_inj h; rfl
  | decb buf => obtain rfl := next_inj h; rfl

/-- TIMEOUT and CANCEL keep SESSION, or stop an open session (R186, R187). -/
theorem session_of_stop_cases {p : Packet} {s t : State}
    (h : (s.mustHold = true ∧ t = s.hold p) ∨
      (s.mustHold = false ∧ s.sessionOpen = false ∧ t = s.withRet (.result .badState)) ∨
      (s.mustHold = false ∧ s.sessionOpen = true ∧ t = s.stopSequence)) :
    t.session = s.session ∨ (s.session = .started ∨ s.session = .receiving) ∧ t.session = .stopped := by
  rcases h with ⟨-, rfl⟩ | ⟨-, -, rfl⟩ | ⟨-, hopen, rfl⟩
  · exact .inl rfl
  · exact .inl rfl
  · exact .inr ⟨(s.sessionOpen_iff.mp hopen).2, rfl⟩

/-- Settles O50: each event by its outcomes; an accepted DGRAM moves SESSION only where it was Started. -/
theorem sessionMovesAlongTheTable : Obligations.SessionMovesAlongTheTable := by
  intro i s t h
  cases i with
  | reset => exact .inr (.inl ⟨rfl, next_inj h ▸ rfl⟩)
  | start rc =>
    rcases execStart_cases h with ⟨-, rfl⟩ | ⟨-, -, rfl⟩ | ⟨-, -, -, rfl⟩ | ⟨-, hcode, hstart, rfl⟩
    · exact .inl rfl
    · exact .inl rfl
    · exact .inl rfl
    · exact .inr (.inr (.inl ⟨rc, rfl, (rateCodeOk_iff rc).mp hcode, (s.startable_iff.mp hstart).2, rfl⟩))
  | dgram d =>
    rcases execDgram_cases h with ⟨-, rfl⟩ | ⟨-, -, rfl⟩ | ⟨-, hopen, rfl⟩
    · exact .inl rfl
    · exact .inl rfl
    · have hreceiving : (s.acceptDatagram d).session = .receiving := by rw [State.acceptDatagram_eq]; simp
      rcases (s.sessionOpen_iff.mp hopen).2 with hs | hs
      · exact .inr (.inr (.inr (.inl ⟨d, rfl, hs, hreceiving⟩)))
      · exact .inl (hreceiving.trans hs.symm)
  | timeout =>
    exact (session_of_stop_cases (execTimeout_cases h)).imp_right fun hmove => .inr (.inr (.inr ⟨.inl rfl, hmove⟩))
  | cancel =>
    exact (session_of_stop_cases (execCancel_cases h)).imp_right fun hmove =>
      .inr (.inr (.inr ⟨.inr (.inl rfl), hmove⟩))
  | stopseq =>
    obtain ⟨hopen, -, rfl⟩ := execStopseq_cases h
    exact .inr (.inr (.inr (.inr ⟨.inr (.inr rfl), (s.sessionOpen_iff.mp hopen).2, rfl⟩)))
  | _ => exact .inl (exec_keeps_session h rfl nofun)

/-! Rate and time (R189, R193, R194). -/

/-- Settles O44: RATEHZ answers the table, read at each of its four codes. -/
theorem ratehzReadsTheTable : Obligations.RatehzReadsTheTable := fun _ => ⟨rfl, rfl, rfl, rfl⟩

theorem timestamp_eq_div (c : RateCode) (i : Nat) : timestamp c i = (i : Rat) / (rateRom c : Rat) :=
  Rat.mkRat_eq_div i (rateRom c)

/-- Each period is a whole number of nanoseconds: the two tables multiply to a second (R189). -/
theorem rateRom_mul_periodNs (c : RateCode) : rateRom c * periodNs c = 1000000000 := by
  unfold rateRom periodNs
  split <;> rfl

/-- Settles O45: the quotient is expanded by the period. -/
theorem tstampIsTheExactQuotient : Obligations.TstampIsTheExactQuotient := by
  intro i s
  refine ⟨timestamp s.rate i, rfl, timestamp_eq_div s.rate i, ?_⟩
  have hsecond : (rateRom s.rate : Rat) * (periodNs s.rate : Rat) = 1000000000 := by
    exact_mod_cast rateRom_mul_periodNs s.rate
  have hperiod : (periodNs s.rate : Rat) ≠ 0 := right_ne_zero_of_mul (by rw [hsecond]; norm_num)
  rw [timestamp_eq_div, Nat.cast_mul, ← hsecond, mul_div_mul_right _ _ hperiod]

/-- In Stopped the artifact has an element for each sample. -/
theorem State.length_artifact {s : State} (h : s.session = .stopped) : s.artifact.length = s.samples.length := by
  simp [State.artifact, h]

theorem State.getElem?_artifact {s : State} (h : s.session = .stopped) {k : Nat} {x : Sample}
    (hx : s.samples[k]? = some x) : s.artifact[k]? = some ((k : Rat) / (rateRom s.rate : Rat), x) := by
  simp [State.artifact, h, hx, timestamp_eq_div]

/-- Settles O56: the accepted stop leaves Stopped with the decode of ABUF in SAMPLES, two samples for each group. -/
theorem artifactPairsTimesWithSamples : Obligations.ArtifactPairsTimesWithSamples := by
  intro s i hi hidle hfault hsession
  have hstopped : s.stopSequence.session = .stopped := rfl
  have hlength : s.stopSequence.samples.length = 2 * (s.wptr / 4) := by
    rw [State.stopSequence_samples, decodeBuffer_length, s.length_abufBytes]
  have hrun : exec i s = .next s.stopSequence :=
    exec_of_stop_event (hi.imp_right .inl) hidle (s.sessionOpen_iff.mpr ⟨hfault, hsession⟩)
  exact ⟨s.stopSequence, hrun, (State.length_artifact hstopped).trans hlength, hlength,
    fun k x hx => State.getElem?_artifact hstopped hx⟩

end Sys2Proof.Machine
end

section
/-! PROOFS. A whole session (spec/43_session.md R197; spec/70_reset_and_hazards.md R258). `State.Serving` says where a session
stands between two events: what has been received, and which events are still held. START leads there from an idle block, each
datagram leads from there to there, by one step or by a whole fill, and the stop event ends it; O60 is these runs in a row. -/

namespace Sys2Proof.Machine

/-! Runs of some number of steps. -/

/-- Some number of steps leads from one state to the other. -/
def State.Reaches (s t : State) : Prop := ∃ k, stepN k s = .next t

/-- A run goes on from where its first part ended. -/
theorem stepN_add_of_next {j : Nat} {s t : State} (h : stepN j s = .next t) (k : Nat) :
    stepN (j + k) s = stepN k t := by
  induction j generalizing s with
  | zero =>
    obtain rfl := next_inj h
    rw [Nat.zero_add]
  | succ j ih =>
    rw [Nat.add_right_comm]
    rw [stepN] at h ⊢
    cases hstep : step s with
    | next u => rw [hstep] at h; exact ih h
    | fault r => rw [hstep] at h; cases h
    | refused r => rw [hstep] at h; cases h

theorem State.Reaches.refl (s : State) : s.Reaches s := ⟨0, rfl⟩

theorem State.Reaches.trans {s t u : State} (h : s.Reaches t) (h' : t.Reaches u) : s.Reaches u := by
  obtain ⟨j, hj⟩ := h
  obtain ⟨k, hk⟩ := h'
  exact ⟨j + k, (stepN_add_of_next hj k).trans hk⟩

theorem State.Reaches.of_step {s t : State} (h : step s = .next t) : s.Reaches t :=
  ⟨1, (stepN_succ_of_next rfl).trans h⟩

/-! An idle block that takes its events one by one. -/

/-- A packet that counts as a RESET reads as one (R240). -/
theorem decode_of_isReset {p : Packet} (h : p.isReset = true) : decode p = .ok .reset := by
  cases p with
  | evt code rc d =>
    obtain rfl : code = 0 := by simpa [Packet.isReset] using h
    rfl
  | _ => cases h

/-- Only RESET is written as a RESET. -/
theorem isReset_encode {i : Instr} (hwf : WellFormed i = true) (hi : i ≠ .reset) : (encode i).isReset = false := by
  rw [← Bool.not_eq_true]
  intro hreset
  have hread : (.ok i : Except Reject Instr) = .ok .reset :=
    (decodeOfEncodeIsTheInstruction i hwf).symm.trans (decode_of_isReset hreset)
  exact hi (Except.ok.inj hread)

/-- The block is idle, everything fits, and exactly the operations of `queue`, none of them RESET, are held, with nothing to
arrive. -/
structure State.Offers (s : State) (queue : List Instr) : Prop where
  idle : s.gsState = .idle
  noFault : s.fault = false
  unbounded : s.params = Config.defaultParams
  input : s.input = []
  held : s.held = queue.map encode
  legal : ∀ i ∈ queue, WellFormed i = true ∧ i ≠ .reset

section
variable {s : State} {i : Instr} {queue : List Instr}

theorem State.Offers.noReset (h : s.Offers queue) : s.NoReset := by
  refine ⟨?_, by simp [h.input]⟩
  rw [h.held, List.forall_mem_map]
  intro i hi
  obtain ⟨hwf, hne⟩ := h.legal i hi
  exact isReset_encode hwf hne

/-- The next step runs the operation in front (R171). -/
theorem State.Offers.step_eq (h : s.Offers (i :: queue)) : step s = exec i { s with held := queue.map encode } := by
  have harrive : s.arrive = s := by simp [State.arrive, h.input]
  have hwf : WellFormed i = true := (h.legal i List.mem_cons_self).1
  have hrun := stepRunsTheDecodedPacket s (encode i) (queue.map encode) i (by rw [harrive, h.held, List.map_cons])
    h.noReset.resetPending_arrive (.inr h.idle) (decodeOfEncodeIsTheInstruction i hwf)
  rwa [harrive] at hrun

/-- Behind the operation in front the block offers the rest. -/
theorem State.Offers.tail (h : s.Offers (i :: queue)) : ({ s with held := queue.map encode } : State).Offers queue where
  idle := h.idle
  noFault := h.noFault
  unbounded := h.unbounded
  input := h.input
  held := rfl
  legal := fun j hj => h.legal j (List.mem_cons_of_mem i hj)

end

/-! A fill with nothing to arrive (R170). -/

/-- After GS.LOAD the micro-steps lead to where REASM would, the synthesizer's own registers aside. -/
theorem State.loadSynthesizer_reaches {s : State} {p : List Byte} (hp : payloadOk p = true) (hidle : s.gsState = .idle)
    (hfault : s.fault = false) (hreset : s.NoReset) (hinput : s.input = []) (v : Verdict) :
    ∃ zrem pbuf plen,
      (s.loadSynthesizer p v).Reaches { s.reassemble p v with zrem := zrem, pbuf := pbuf, plen := plen } := by
  have hrun : stepN (v.count.toNat + 1) (s.loadSynthesizer p v) = .next _ :=
    stepN_filled_flushPayload (s := s.loadSynthesizer p v) hfault hreset (s.gsState_loadSynthesizer_eq_ite_zrem p v)
  obtain ⟨zrem, pbuf, plen, held, input, hend⟩ :=
    State.filled_flushPayload_eq_reassemble ((payloadOk_iff p).mp hp) hidle v
  obtain rfl : s.held = held := by
    simpa [State.filled, State.arrive_held, hinput] using congrArg State.held hend
  obtain rfl : s.input = input := by
    simpa [State.filled, State.arrive_input, hinput] using congrArg State.input hend
  rw [State.loadSynthesizer_zrem, hend] at hrun
  exact ⟨zrem, pbuf, plen, _, hrun⟩

/-! A session between two events. -/

/-- An open session with code `rc` that has EXPECTED at `e`, has assembled `bytes`, and has the events of `queue` held. -/
structure State.Serving (s : State) (rc : Byte) (e : Counter) (bytes : List Byte) (queue : List Instr) : Prop
    extends s.Offers queue where
  session : s.session = .started ∨ s.session = .receiving
  rate : s.rate = rc.setWidth 2
  expected : s.expected = e
  abufBytes : s.abufBytes = bytes
  ctlOut : s.ctlOut = [[0x00, rc]]

section
variable {s : State} {rc : Byte} {e : Counter} {bytes d : List Byte} {queue : List Instr}

/-- START opens a session that has received nothing (R181). -/
theorem State.Offers.start (h : s.Offers (.start rc :: queue)) (hcode : rc.toNat ≤ 3) (hsession : s.session = .idle)
    (hctlOut : s.ctlOut = []) : ∃ t, s.Reaches t ∧ t.Serving rc 0 [] queue := by
  have hrun := h.step_eq.trans (startOpensASession rc _ hcode hsession h.noFault h.idle)
  refine ⟨_, .of_step hrun,
    { h.tail with session := .inl rfl, rate := rfl, expected := rfl, abufBytes := rfl, ctlOut := ?_ }⟩
  simp [hctlOut]

/-- A datagram of no legal length leaves no more than its result and a free DBUF (R183, R184). -/
theorem exec_dgram_of_invalid (hidle : s.gsState = .idle) (hfault : s.fault = false)
    (hsession : s.session = .started ∨ s.session = .receiving) (hinvalid : validLength d = false) :
    ∃ t, exec (.dgram d) s = .next t ∧
      t = { s with session := .receiving, ret := t.ret, dbuf := t.dbuf, freeCtr := t.freeCtr } := by
  have hlength : d.length < 3 ∨ 259 < d.length := by
    rw [← Bool.not_eq_true, validLength_iff] at hinvalid
    omega
  have hskips := shortAndOversizeDatagramsAreSkipped d s hidle hfault hsession
  rcases hlength with hshort | hover
  · obtain ⟨t, hexec, ht⟩ := hskips.1 hshort
    exact ⟨t, hexec, by rw [ht]⟩
  · obtain ⟨t, hexec, ht⟩ := hskips.2 hover
    exact ⟨t, hexec, by rw [ht]⟩

/-- The synthesizer is loaded from the datagram, not from what is left in DBUF (R167). -/
theorem State.expireDbuf_loadSynthesizer (s : State) (p : List Byte) (v : Verdict) :
    (s.loadSynthesizer p v).expireDbuf = s.expireDbuf.loadSynthesizer p v := rfl

/-- With unbounded parameters a datagram of legal length is loaded in the state `u` that CLASSIFY left (R185). -/
theorem exec_dgram_of_valid (hidle : s.gsState = .idle) (hfault : s.fault = false)
    (hsession : s.session = .started ∨ s.session = .receiving) (hparams : s.params = Config.defaultParams)
    (hvalid : validLength d = true) :
    ∃ u : State,
      exec (.dgram d) s = .next (u.loadSynthesizer (payloadOf d) (s.verdictOn (receivedOf d))) ∧
      u = { s with
        session := .receiving, expected := adv (receivedOf d), ret := u.ret, dbuf := u.dbuf, freeCtr := u.freeCtr } := by
  have haccepted := exec_dgram_of_open hidle hfault hsession d
  have hfits : s.enterReceiving.fits
      (256 * (gaplen (receivedOf d) s.enterReceiving.expected).toNat + (payloadOf d).length) = true :=
    State.fits_unbounded _ _ hparams
  rw [State.acceptedBy_of_validLength hvalid, State.receiveValid_of_fits hfits,
    State.expireDbuf_loadSynthesizer] at haccepted
  exact ⟨_, haccepted, rfl⟩

theorem State.Serving.skip (h : s.Serving rc e bytes (.dgram d :: queue)) (hinvalid : validLength d = false) :
    ∃ t, s.Reaches t ∧ t.Serving rc e bytes queue := by
  obtain ⟨t, hexec, ht⟩ := exec_dgram_of_invalid h.tail.idle h.tail.noFault h.session hinvalid
  have hnext : t.Serving rc e bytes queue := by
    rw [ht]
    exact { h.tail, h with session := .inr rfl }
  exact ⟨t, .of_step (h.step_eq.trans hexec), hnext⟩

/-- Where REASM would lead, the synthesizer's own registers aside, the bytes of the datagram are assembled (R160). -/
theorem State.Serving.reassemble (h : s.Serving rc e bytes queue) (p : List Byte) (v : Verdict) (zrem : BitVec 16)
    (pbuf : Vector Byte 256) (plen : BitVec 9) :
    ({ s.reassemble p v with zrem := zrem, pbuf := pbuf, plen := plen } : State).Serving rc e
      (bytes ++ List.replicate v.fillBytes 0 ++ p) queue :=
  { h with abufBytes := h.abufBytes ▸ s.abufBytes_reassemble p v }

/-- A datagram of legal length is accepted in one step and assembled in those of its fill (R170, R185). -/
theorem State.Serving.receive (h : s.Serving rc e bytes (.dgram d :: queue)) (hvalid : validLength d = true) :
    ∃ t, s.Reaches t ∧ t.Serving rc (adv (receivedOf d))
      (bytes ++ List.replicate (256 * (gaplen (receivedOf d) e).toNat) 0 ++ payloadOf d) queue := by
  obtain ⟨u, hexec, hu⟩ := exec_dgram_of_valid h.tail.idle h.tail.noFault h.session h.unbounded hvalid
  have hloading : u.Serving rc (adv (receivedOf d)) bytes queue := by
    rw [hu]
    exact { h.tail, h with session := .inr rfl, expected := rfl }
  obtain ⟨zrem, pbuf, plen, hfill⟩ := State.loadSynthesizer_reaches (payloadOk_payloadOf hvalid) hloading.idle
    hloading.noFault hloading.noReset hloading.input (s.verdictOn (receivedOf d))
  have hcount : (s.verdictOn (receivedOf d)).fillBytes = 256 * (gaplen (receivedOf d) e).toNat := by
    rw [fillBytes_eq, State.count_verdictOn, h.expected]
  rw [← hcount]
  exact ⟨_, (State.Reaches.of_step (h.step_eq.trans hexec)).trans hfill, hloading.reassemble _ _ zrem pbuf plen⟩

/-- The datagrams of a session in a row (R197). -/
theorem State.Serving.receiveAll {ds : List (List Byte)} (h : s.Serving rc e bytes (ds.map .dgram ++ queue)) :
    ∃ t, s.Reaches t ∧ t.Serving rc (expectedAfter e ds) (bytes ++ assembledFrom e ds) queue := by
  induction ds generalizing s e bytes with
  | nil => exact ⟨s, .refl s, by simpa [expectedAfter, assembledFrom] using h⟩
  | cons d ds ih =>
    cases hvalid : validLength d with
    | false =>
      obtain ⟨t, hfirst, ht⟩ := State.Serving.skip h hvalid
      obtain ⟨u, hrest, hu⟩ := ih ht
      exact ⟨u, hfirst.trans hrest, by simpa [expectedAfter, assembledFrom, hvalid] using hu⟩
    | true =>
      obtain ⟨t, hfirst, ht⟩ := State.Serving.receive h hvalid
      obtain ⟨u, hrest, hu⟩ := ih ht
      exact ⟨u, hfirst.trans hrest, by simpa [expectedAfter, assembledFrom, hvalid] using hu⟩

/-- The last event ends the session with the decode of what was assembled (R188). -/
theorem State.Serving.stop {stop : Instr} (h : s.Serving rc e bytes [stop]) (hstop : stop = .timeout ∨ stop = .cancel) :
    s.Reaches ({ s with held := [] } : State).stopSequence :=
  .of_step (h.step_eq.trans
    (exec_of_stop_event (hstop.imp_right .inl) h.idle ((State.sessionOpen_iff _).mpr ⟨h.noFault, h.session⟩)))

end

/-- The events of a session: START, the datagrams and the stop event; none of them is RESET. -/
theorem legal_of_session {rc : Byte} {ds : List (List Byte)} {stop : Instr} (hstop : stop = .timeout ∨ stop = .cancel) :
    ∀ i ∈ .start rc :: (ds.map Instr.dgram ++ [stop]), WellFormed i = true ∧ i ≠ .reset := by
  intro i hi
  simp only [List.mem_cons, List.mem_append, List.mem_map, List.not_mem_nil, or_false] at hi
  rcases hi with rfl | ⟨d, -, rfl⟩ | rfl
  · exact ⟨rfl, nofun⟩
  · exact ⟨rfl, nofun⟩
  · rcases hstop with rfl | rfl <;> exact ⟨rfl, nofun⟩

/-- Settles O60: START, the datagrams by induction, and the stop event, each run where the one before it ended. -/
theorem sessionIsAFunctionOfItsTrace : Obligations.SessionIsAFunctionOfItsTrace := by
  intro rc ds stop s hcode hstop hsession hidle hfault hctlOut hparams hinput hheld
  have hoffers : s.Offers (.start rc :: (ds.map .dgram ++ [stop])) :=
    { idle := hidle, noFault := hfault, unbounded := hparams, input := hinput
      held := by simpa [Function.comp_def] using hheld
      legal := legal_of_session hstop }
  obtain ⟨t, hstart, ht⟩ := hoffers.start hcode hsession hctlOut
  obtain ⟨u, hdatagrams, hu⟩ := ht.receiveAll
  obtain ⟨k, hk⟩ := (hstart.trans hdatagrams).trans (hu.stop hstop)
  have hbytes : u.abufBytes = assembledFrom 0 ds := hu.abufBytes
  refine ⟨k, _, hk, ⟨rfl, hu.idle, hu.noFault⟩, rfl, hbytes, congrArg decodeBuffer hbytes, hu.expected, ?ctlOut, ?rate⟩
  case ctlOut =>
    rw [State.stopSequence_ctlOut, hu.ctlOut]
    rfl
  case rate =>
    rw [State.stopSequence_rate, hu.rate]
    exact toNat_setWidth_rateCode hcode

end Sys2Proof.Machine
end

section
/-! PROOFS. A block with nothing to do, and a datagram that does not fit (spec/60_exceptions.md R217, R232). -/

namespace Sys2Proof.Machine

/-! Nothing held (R232). -/

theorem State.resetPending_of_held_nil {s : State} (h : s.held = []) : s.resetPending = false := by
  simp [State.resetPending, h]

/-- An empty queue selects nothing; while FAULT is 0 the block keeps its state. -/
theorem State.takeHeld_of_held_nil {s : State} (h : s.held = []) (hfault : s.fault = false) : s.takeHeld = .settle s := by
  simp [State.takeHeld, h, hfault]

/-- An empty batch leaves the queue as it was (R39). -/
theorem State.arrive_of_no_batch {s : State} (h : s.input.headD [] = []) :
    s.arrive = { s with input := s.input.tail } := by
  rw [State.arrive_eq, h, List.append_nil]

/-- Settles O11: the queue is still empty once the empty batch is in, and it decides for an idle block, so the step is
the arrival alone. -/
theorem waitingBlockKeepsItsState : Obligations.WaitingBlockKeepsItsState := by
  intro s hheld hbatch hidle hfault
  have hempty : s.arrive.held = [] := by rw [State.arrive_of_no_batch hbatch, hheld]
  have hpick : s.arrive.pick = .settle s.arrive :=
    (State.pick_eq_takeHeld (State.resetPending_of_held_nil hempty) (.inr (by simpa using hidle))).trans
      (State.takeHeld_of_held_nil hempty (by simpa using hfault))
  rw [step_of_pick_settle hpick, State.arrive_of_no_batch hbatch]

/-! A datagram that does not fit (R217). -/

/-- Settles O46: a datagram of legal length that does not fit raises BufferOverflow, which keeps what U16 does not name;
CLASSIFY before it writes EXPECTED alone, and DGRAM around it SESSION and DBUF. -/
theorem overflowSetsFault : Obligations.OverflowSetsFault := by
  intro y c p s hp hidle hfault hsession hfull
  refine ⟨_, exec_dgram_of_open hidle hfault hsession _, ?_⟩
  rw [State.acceptedBy_of_validLength (validLength_encodeDatagram hp y c),
    State.receiveValid_encodeDatagram_of_full (s := s.enterReceiving) y hfull]
  simp

end Sys2Proof.Machine
end

section
/-! PROOFS. RESET (spec/70_reset_and_hazards.md R240, spec/60_exceptions.md R222): the state it answers and its place before
everything that is pending, then O7. -/

namespace Sys2Proof.Machine

/-- The block after RESET, field by field (R38): only the environment's arrivals and the parameters are those of `s`. -/
theorem State.resetBlock_eq (s : State) :
    s.resetBlock = { s with
      expected := 0, abuf := [], wptr := 0, session := .idle, rate := 0, gsState := .idle, zrem := 0,
      pbuf := Config.freePbuf s.freeCtr, plen := 0, dbuf := [], samples := [], ctlOut := [], fault := false, held := [],
      ret := .result (.ok none), freeCtr := s.freeCtr + 1 } := rfl

theorem exec_reset (s : State) : exec .reset s = .next s.resetBlock := rfl

/-- A pending RESET is selected whatever FAULT and GS_STATE hold (R222, R240). -/
theorem State.pick_of_resetPending {s : State} (h : s.resetPending = true) : s.pick = .run .reset s.atReset :=
  if_pos h

/-- A step in which a RESET is queued runs the oldest one, with what came before it held and what came behind it put back
to arrive later. -/
theorem step_of_reset_held {s : State} {before after : List Packet} {r : Packet}
    (hheld : s.arrive.held = before ++ r :: after) (hbefore : ∀ p ∈ before, p.isReset = false)
    (hr : r.isReset = true) :
    step s = exec .reset { s.arrive with held := before, input := putBack after s.arrive.input } := by
  obtain ⟨hpending, hatReset⟩ := State.atReset_of_held hheld hbefore hr
  rw [step_of_pick_run (State.pick_of_resetPending hpending), hatReset]

/-- Settles O7: the reset values are those of the block RESET answers, and the operand byte and data of a RESET packet do
not decide whether it is one. -/
theorem resetLeavesTheResetValues : Obligations.ResetLeavesTheResetValues := by
  constructor
  case left =>
    intro s
    rw [exec_reset, State.resetBlock_eq]
  case right =>
    intro s before after rc d hheld hbefore
    exact ⟨{ s.arrive with held := before, input := putBack after s.arrive.input }, rfl,
      flatten_putBack after s.arrive.input, step_of_reset_held hheld hbefore rfl⟩

end Sys2Proof.Machine
end

section
/-! PROOFS. The internal operations outside their preconditions and operand ranges (log entry 12): the guard of each said
once in the spec's terms, where the equations of O13 to O41 do not say it yet, then O33. -/

namespace Sys2Proof.Machine

section
variable {p d : List Byte} {v : Verdict} {s : State}

/-! An operand that the format of the operation does not admit (R97, R98). -/

theorem operandsOk_eq_false_iff : (payloadOk p && verdictOk v) = false ↔ 256 < p.length ∨ v = .gap 0 := by
  rw [Bool.and_eq_false_iff, ← Bool.not_eq_true, payloadOk_iff, ← Bool.not_eq_true, verdictOk_iff, not_le, not_not]

theorem exec_gsLoad_of_malformed (h : 256 < p.length ∨ v = .gap 0) :
    exec (.gsLoad p v) s = .fault (.malformed "GS.LOAD") :=
  if_neg (Bool.eq_false_iff.mp (operandsOk_eq_false_iff.mpr h))

theorem exec_reasm_of_malformed (h : 256 < p.length ∨ v = .gap 0) :
    exec (.reasm p v) s = .fault (.malformed "REASM") :=
  if_neg (Bool.eq_false_iff.mp (operandsOk_eq_false_iff.mpr h))

theorem exec_recPayload_of_malformed (h : 256 < p.length) :
    exec (.recPayload p) s = .fault (.malformed "REC.PAYLOAD") :=
  if_neg fun hpayload => h.not_ge ((payloadOk_iff p).mp hpayload)

/-! A state or a datagram for which the operation is not selected (R140, R167 to R169, R188). -/

theorem exec_gsLoad_of_busy (hp : p.length ≤ 256) (hv : v ≠ .gap 0) (hbusy : s.gsState ≠ .idle) :
    exec (.gsLoad p v) s = .fault (.precondition "GS.LOAD") := by
  have hoperands : (payloadOk p && verdictOk v) = true :=
    Bool.and_eq_true_iff.mpr ⟨(payloadOk_iff p).mpr hp, (verdictOk_iff v).mpr hv⟩
  exact (if_pos hoperands).trans (if_pos (bne_iff_ne.mpr hbusy))

theorem exec_gsZfill_of_not_filling (h : s.gsState ≠ .zfill ∨ s.zrem = 0) :
    exec .gsZfill s = .fault (.precondition "GS.ZFILL") :=
  if_neg fun ⟨hzfill, hzrem⟩ => h.elim (absurd hzfill) hzrem

theorem exec_gsPayload_of_not_payload (h : s.gsState ≠ .payload) :
    exec .gsPayload s = .fault (.precondition "GS.PAYLOAD") := if_neg h

theorem exec_parse_of_not_validLength (h : ¬(3 ≤ d.length ∧ d.length ≤ 259)) :
    exec (.parse d) s = .fault (.precondition "PARSE") :=
  if_neg (mt (validLength_iff d).mp h)

/-- STOPSEQ runs exactly in an open session with FAULT = 0 and GS_STATE = GS_IDLE (R188). -/
theorem exec_stopseq :
    exec .stopseq s =
      if (s.fault = false ∧ (s.session = .started ∨ s.session = .receiving)) ∧ s.gsState = .idle then
        .next s.stopSequence
      else .fault (.precondition "STOPSEQ") :=
  if_congr (by simp [State.sessionOpen_iff, State.busy]) rfl rfl

end

/-- Settles O33: each clause negates the guard of its operation. GS.LOAD tests its operands before GS_STATE, so a busy
synthesizer is named only where the operands are in range. -/
theorem internalOperationsStopOutsideTheirPreconditions :
    Obligations.InternalOperationsStopOutsideTheirPreconditions := by
  intro s
  refine ⟨exec_gsZfill_of_not_filling, exec_gsPayload_of_not_payload, fun p v => exec_gsLoad_of_busy,
    fun p v hbad => ⟨exec_gsLoad_of_malformed hbad, exec_reasm_of_malformed hbad⟩,
    fun p => exec_recPayload_of_malformed, fun d hlength => ?parse, fun hclosed => ?stopseq⟩
  case parse => exact exec_parse_of_not_validLength (by omega)
  case stopseq =>
    refine exec_stopseq.trans (if_neg ?_)
    rintro ⟨⟨hfault, hopen⟩, hidle⟩
    obtain hbusy | hfaulted | hsession | hsession := hclosed
    · exact hbusy hidle
    · exact absurd (hfault.symm.trans hfaulted) Bool.false_ne_true
    · simp [hsession] at hopen
    · simp [hsession] at hopen

end Sys2Proof.Machine
end
